-- ==== Sys2Proof/Word.lean ====
section
/-! DEFINITION. The plain data types everything else is made of: words, bytes, register numbers, type codes. -/

namespace Sys2Proof

/-- The value part of a register and an address: 32 bits (10_state.md R20, 20_memory.md R60). -/
abbrev Word := BitVec 32

/-- The smallest addressable unit of memory (20_memory.md R60). -/
abbrev Byte := BitVec 8

/-- A register number, 0 to 31: "every register field in every instruction format is 5 bits wide" (10_state.md R20). -/
abbrev RegNum := Fin 32

/-- The type code a register carries beside its value (10_state.md R24). -/
inductive TyCode where
  /-- unsigned -/
  | u
  /-- signed, two's complement (10_state.md R34) -/
  | s
  /-- float; nothing computes with it (10_state.md R35) -/
  | f
  /-- Posit; nothing computes with it (10_state.md R36) -/
  | p
  deriving DecidableEq, Repr, Inhabited

end Sys2Proof
end

