-- ==== Sys2Proof/Config.lean ====
section
/-! DEFINITION. The parameters of the architecture (00_scope.md R7) and the free values.
What the spec calls OPEN, a model argument, is an `opaque` constant without a body: nothing in Lean can compute
it, so a theorem holds for every value of it. `RESET_PC` and the reset value of `MemMap` are the two open
parameters that `State.reset` needs as data; their values are DESIGN CHOICES of the model. -/

namespace Sys2Proof

/-- The mnemonics of the rows marked fmt24ds: the possible values of `subop24` (47_single_operand.md R312). -/
inductive SingleOp where
  | inp | out | mov | not | neg | inc | dec | abs | nabs
  | ldzcnt | ld1cnt | trzcnt | tr1cnt | popcnt | sqrt
  | sinpi | cospi | tanpi | asinpi | acospi | atanpi | int | flt | expon | fract
  | fsqrt | frsqrt | frcp | ln2p1 | ln2 | exp2m1 | exp2
  | rnd | rndtev | rndtod | rndtz | rndfz | ceil | floor
  deriving DecidableEq, Repr, Inhabited

/-- Every fmt24ds mnemonic, in the order of the source's list. -/
def SingleOp.all : List SingleOp :=
  [.inp, .out, .mov, .not, .neg, .inc, .dec, .abs, .nabs, .ldzcnt, .ld1cnt, .trzcnt, .tr1cnt, .popcnt, .sqrt] ++
  [.sinpi, .cospi, .tanpi, .asinpi, .acospi, .atanpi, .int, .flt, .expon, .fract] ++
  [.fsqrt, .frsqrt, .frcp, .ln2p1, .ln2, .exp2m1, .exp2] ++
  [.rnd, .rndtev, .rndtod, .rndtz, .rndfz, .ceil, .floor]

/-- `insrt_roles` (43_shift_bitfield.md R219): which of R and T is inserted into which by INSRT. -/
inductive InsrtRoles where
  /-- the low bits of R replace a field of T -/
  | rIntoT
  /-- the low bits of T replace a field of R -/
  | tIntoR
  deriving DecidableEq, Repr, Inhabited

/-- `bbs_roles` (45_control.md R266): which field of BBS/BBC names the register tested. -/
inductive BbsRoles where
  /-- `d` names the register, `r` is the bit number -/
  | regDBitR
  /-- `r` names the register, `d` is the bit number -/
  | regRBitD
  deriving DecidableEq, Repr, Inhabited

namespace Config

/-- `RESET_PC` (10_state.md R41, 70_reset_and_hazards.md R391). DESIGN CHOICE (entry 3), unsafe: the spec leaves it
open; this is the address at which 95_test_vectors.md places its programs. -/
def resetPc : Word := 0x1000

/-- The sub-opcode the implementation gives a single operand mnemonic, if it gives it one: the open parameter
`subop24` (47_single_operand.md R312) read from the mnemonic's side (entry 8). No body: any assignment. -/
opaque subopCode : SingleOp → Option (Fin 32)

/-- `CmpResult` (40_addsub.md R163): the vector CMP writes, from the type, S and R (entry 9). No body. -/
opaque cmpResult : TyCode → Word → Word → Word

/-- `insrt_roles` (43_shift_bitfield.md R219, entry 10). No body. -/
opaque insrtRoles : InsrtRoles

/-- `bbs_roles` (45_control.md R266, entry 11). No body. -/
opaque bbsRoles : BbsRoles

/-- The value the environment supplies for the read number `draw` of the port given (20_memory.md R72, entry 12).
No body: a draw, of which nothing is assumed. -/
opaque portIn : (draw : Nat) → (port : Word) → Word

end Config

/-- `subop24` (47_single_operand.md R312): the mnemonic of a sub-opcode, or none where it is undefined. Partial and
injective by construction, for every `Config.subopCode`: the first mnemonic whose code is `k`. -/
def subop24 (k : Fin 32) : Option SingleOp :=
  SingleOp.all.find? fun m => decide (Config.subopCode m = some k)

end Sys2Proof
end

