-- ==== Sys2Proof/Syntax.lean ====
section
/-! DEFINITION. The instructions as syntax: one constructor of `Instr` for each row of spec/opcode_table.json
(the two rows of BR are one constructor, and the two of CALLR: `Disp` says which format).
Register fields are named as in 00_scope.md R17: `d` destination, `r` first source R, `rs` second source S, `rt` third
source T, `b` base, `j` index, `n` and `m` immediates, `zz`, `z`, `u`, `y` the small fields, `f` bits that no rule reads. -/

namespace Sys2Proof

/-- A 5-bit immediate field together with its extension bytes (30_encoding.md R100): one constructor per encoding. -/
inductive Imm5 where
  /-- `00nnn`: the constant 0 to 7 -/
  | short (v : BitVec 3)
  /-- `011nn`: the constant `v - 4`, -4 to -1 -/
  | neg (v : BitVec 2)
  /-- `01000`: one byte of data follows -/
  | data1 (v : BitVec 8)
  /-- `01001`: two bytes of data follow -/
  | data2 (v : BitVec 16)
  /-- `01010`: three bytes of data follow -/
  | data3 (v : BitVec 24)
  /-- `01011`: four bytes of data follow -/
  | data4 (v : BitVec 32)
  /-- `1xxxx` and one byte: a 12-bit number, or a 6-bit location and a 6-bit length (R103) -/
  | wide (v : BitVec 12)
  deriving DecidableEq, Repr

/-- The displacement of BR and CALLR, whose two formats differ in nothing else (45_control.md R265, R270). -/
inductive Disp where
  /-- fmt24n: 16 bits -/
  | d16 (v : BitVec 16)
  /-- fmt32n: 24 bits -/
  | d24 (v : BitVec 24)
  deriving DecidableEq, Repr

/-- The instructions, one constructor per row of the opcode table. -/
inductive Instr where
  /-- BR, fmt24n and fmt32n (45_control.md R265) -/
  | br (n : Disp)
  /-- CALLR, fmt24n and fmt32n (45_control.md R270) -/
  | callr (n : Disp)
  /-- BBS, fmt24drn (45_control.md R266) -/
  | bbs (d : RegNum) (r : RegNum) (n : Imm5)
  /-- BBC, fmt24drn (45_control.md R266) -/
  | bbc (d : RegNum) (r : RegNum) (n : Imm5)
  /-- BRZ, fmt24dcn (45_control.md R267) -/
  | brz24 (d : RegNum) (n : BitVec 8)
  /-- BRGZ, fmt24dcn (45_control.md R267) -/
  | brgz24 (d : RegNum) (n : BitVec 8)
  /-- BRGEZ, fmt24dcn (45_control.md R267) -/
  | brgez24 (d : RegNum) (n : BitVec 8)
  /-- BREV, fmt24dcn (45_control.md R267) -/
  | brev24 (d : RegNum) (n : BitVec 8)
  /-- BRNZ, fmt24dcn (45_control.md R267) -/
  | brnz24 (d : RegNum) (n : BitVec 8)
  /-- BRLEZ, fmt24dcn (45_control.md R267) -/
  | brlez24 (d : RegNum) (n : BitVec 8)
  /-- BRLZ, fmt24dcn (45_control.md R267) -/
  | brlz24 (d : RegNum) (n : BitVec 8)
  /-- BROD, fmt24dcn (45_control.md R267) -/
  | brod24 (d : RegNum) (n : BitVec 8)
  /-- BRZ, fmt32dcn (45_control.md R267) -/
  | brz32 (d : RegNum) (n : BitVec 16)
  /-- BRGZ, fmt32dcn (45_control.md R267) -/
  | brgz32 (d : RegNum) (n : BitVec 16)
  /-- BRGEZ, fmt32dcn (45_control.md R267) -/
  | brgez32 (d : RegNum) (n : BitVec 16)
  /-- BREV, fmt32dcn (45_control.md R267) -/
  | brev32 (d : RegNum) (n : BitVec 16)
  /-- BRNZ, fmt32dcn (45_control.md R267) -/
  | brnz32 (d : RegNum) (n : BitVec 16)
  /-- BRLEZ, fmt32dcn (45_control.md R267) -/
  | brlez32 (d : RegNum) (n : BitVec 16)
  /-- BRLZ, fmt32dcn (45_control.md R267) -/
  | brlz32 (d : RegNum) (n : BitVec 16)
  /-- BROD, fmt32dcn (45_control.md R267) -/
  | brod32 (d : RegNum) (n : BitVec 16)
  /-- LDI8, fmt24dan (44_loadstore.md R248) -/
  | ldi8 (d : RegNum) (a : TyCode) (n : BitVec 8)
  /-- LDI16, fmt32dan (44_loadstore.md R249) -/
  | ldi16 (d : RegNum) (a : TyCode) (n : BitVec 16)
  /-- LDI24, fmt40dan (44_loadstore.md R250) -/
  | ldi24 (d : RegNum) (a : TyCode) (n : BitVec 24)
  /-- LDI32, fmt48dan (44_loadstore.md R251) -/
  | ldi32 (d : RegNum) (a : TyCode) (n : BitVec 32)
  /-- ENTER, fmt24drn (45_control.md R277) -/
  | enter (f : BitVec 16)
  /-- EXIT, fmt24drn (45_control.md R278) -/
  | exit (f : BitVec 16)
  /-- ST8, fmt24dbj (44_loadstore.md R256) -/
  | st8Dbj (d : RegNum) (b : RegNum) (j : RegNum)
  /-- ST8, fmt24dbn (44_loadstore.md R256) -/
  | st8Dbn (d : RegNum) (b : RegNum) (n : Imm5)
  /-- ST8, fmt32dbjs (44_loadstore.md R256) -/
  | st8Dbjs (d : RegNum) (b : RegNum) (j : RegNum) (rs : RegNum) (y : BitVec 2)
  /-- ST8, fmt32dbjn (44_loadstore.md R256) -/
  | st8Dbjn (d : RegNum) (b : RegNum) (j : RegNum) (n : Imm5) (y : BitVec 2)
  /-- ST8, fmt32mbjs (44_loadstore.md R256) -/
  | st8Mbjs (m : Imm5) (b : RegNum) (j : RegNum) (rs : RegNum) (y : BitVec 2)
  /-- ST8, fmt32mbjn (44_loadstore.md R256) -/
  | st8Mbjn (m : Imm5) (b : RegNum) (j : RegNum) (n : Imm5) (y : BitVec 2)
  /-- ST16, fmt24dbj (44_loadstore.md R257) -/
  | st16Dbj (d : RegNum) (b : RegNum) (j : RegNum)
  /-- ST16, fmt24dbn (44_loadstore.md R257) -/
  | st16Dbn (d : RegNum) (b : RegNum) (n : Imm5)
  /-- ST16, fmt32dbjs (44_loadstore.md R257) -/
  | st16Dbjs (d : RegNum) (b : RegNum) (j : RegNum) (rs : RegNum) (y : BitVec 2)
  /-- ST16, fmt32dbjn (44_loadstore.md R257) -/
  | st16Dbjn (d : RegNum) (b : RegNum) (j : RegNum) (n : Imm5) (y : BitVec 2)
  /-- ST16, fmt32mbjs (44_loadstore.md R257) -/
  | st16Mbjs (m : Imm5) (b : RegNum) (j : RegNum) (rs : RegNum) (y : BitVec 2)
  /-- ST16, fmt32mbjn (44_loadstore.md R257) -/
  | st16Mbjn (m : Imm5) (b : RegNum) (j : RegNum) (n : Imm5) (y : BitVec 2)
  /-- ST24, fmt24dbj (44_loadstore.md R258) -/
  | st24Dbj (d : RegNum) (b : RegNum) (j : RegNum)
  /-- ST24, fmt24dbn (44_loadstore.md R258) -/
  | st24Dbn (d : RegNum) (b : RegNum) (n : Imm5)
  /-- ST24, fmt32dbjs (44_loadstore.md R258) -/
  | st24Dbjs (d : RegNum) (b : RegNum) (j : RegNum) (rs : RegNum) (y : BitVec 2)
  /-- ST24, fmt32dbjn (44_loadstore.md R258) -/
  | st24Dbjn (d : RegNum) (b : RegNum) (j : RegNum) (n : Imm5) (y : BitVec 2)
  /-- ST24, fmt32mbjs (44_loadstore.md R258) -/
  | st24Mbjs (m : Imm5) (b : RegNum) (j : RegNum) (rs : RegNum) (y : BitVec 2)
  /-- ST24, fmt32mbjn (44_loadstore.md R258) -/
  | st24Mbjn (m : Imm5) (b : RegNum) (j : RegNum) (n : Imm5) (y : BitVec 2)
  /-- ST32, fmt24dbj (44_loadstore.md R259) -/
  | st32Dbj (d : RegNum) (b : RegNum) (j : RegNum)
  /-- ST32, fmt24dbn (44_loadstore.md R259) -/
  | st32Dbn (d : RegNum) (b : RegNum) (n : Imm5)
  /-- ST32, fmt32dbjs (44_loadstore.md R259) -/
  | st32Dbjs (d : RegNum) (b : RegNum) (j : RegNum) (rs : RegNum) (y : BitVec 2)
  /-- ST32, fmt32dbjn (44_loadstore.md R259) -/
  | st32Dbjn (d : RegNum) (b : RegNum) (j : RegNum) (n : Imm5) (y : BitVec 2)
  /-- ST32, fmt32mbjs (44_loadstore.md R259) -/
  | st32Mbjs (m : Imm5) (b : RegNum) (j : RegNum) (rs : RegNum) (y : BitVec 2)
  /-- ST32, fmt32mbjn (44_loadstore.md R259) -/
  | st32Mbjn (m : Imm5) (b : RegNum) (j : RegNum) (n : Imm5) (y : BitVec 2)
  /-- LDU8, fmt24dbj (44_loadstore.md R232) -/
  | ldu8Dbj (d : RegNum) (b : RegNum) (j : RegNum)
  /-- LDU8, fmt24dbn (44_loadstore.md R232) -/
  | ldu8Dbn (d : RegNum) (b : RegNum) (n : Imm5)
  /-- LDU8, fmt32dbjs (44_loadstore.md R232) -/
  | ldu8Dbjs (d : RegNum) (b : RegNum) (j : RegNum) (rs : RegNum) (y : BitVec 2) (u : Bool)
  /-- LDU8, fmt32dbjn (44_loadstore.md R232) -/
  | ldu8Dbjn (d : RegNum) (b : RegNum) (j : RegNum) (n : Imm5) (y : BitVec 2) (u : Bool)
  /-- LDU16, fmt24dbj (44_loadstore.md R233) -/
  | ldu16Dbj (d : RegNum) (b : RegNum) (j : RegNum)
  /-- LDU16, fmt24dbn (44_loadstore.md R233) -/
  | ldu16Dbn (d : RegNum) (b : RegNum) (n : Imm5)
  /-- LDU16, fmt32dbjs (44_loadstore.md R233) -/
  | ldu16Dbjs (d : RegNum) (b : RegNum) (j : RegNum) (rs : RegNum) (y : BitVec 2) (u : Bool)
  /-- LDU16, fmt32dbjn (44_loadstore.md R233) -/
  | ldu16Dbjn (d : RegNum) (b : RegNum) (j : RegNum) (n : Imm5) (y : BitVec 2) (u : Bool)
  /-- LDU24, fmt24dbj (44_loadstore.md R234) -/
  | ldu24Dbj (d : RegNum) (b : RegNum) (j : RegNum)
  /-- LDU24, fmt24dbn (44_loadstore.md R234) -/
  | ldu24Dbn (d : RegNum) (b : RegNum) (n : Imm5)
  /-- LDU24, fmt32dbjs (44_loadstore.md R234) -/
  | ldu24Dbjs (d : RegNum) (b : RegNum) (j : RegNum) (rs : RegNum) (y : BitVec 2) (u : Bool)
  /-- LDU24, fmt32dbjn (44_loadstore.md R234) -/
  | ldu24Dbjn (d : RegNum) (b : RegNum) (j : RegNum) (n : Imm5) (y : BitVec 2) (u : Bool)
  /-- LDU32, fmt24dbj (44_loadstore.md R235) -/
  | ldu32Dbj (d : RegNum) (b : RegNum) (j : RegNum)
  /-- LDU32, fmt24dbn (44_loadstore.md R235) -/
  | ldu32Dbn (d : RegNum) (b : RegNum) (n : Imm5)
  /-- LDU32, fmt32dbjs (44_loadstore.md R235) -/
  | ldu32Dbjs (d : RegNum) (b : RegNum) (j : RegNum) (rs : RegNum) (y : BitVec 2) (u : Bool)
  /-- LDU32, fmt32dbjn (44_loadstore.md R235) -/
  | ldu32Dbjn (d : RegNum) (b : RegNum) (j : RegNum) (n : Imm5) (y : BitVec 2) (u : Bool)
  /-- LD8, fmt24dbj (44_loadstore.md R236) -/
  | ld8Dbj (d : RegNum) (b : RegNum) (j : RegNum)
  /-- LD8, fmt24dbn (44_loadstore.md R236) -/
  | ld8Dbn (d : RegNum) (b : RegNum) (n : Imm5)
  /-- LD8, fmt32dbjs (44_loadstore.md R236) -/
  | ld8Dbjs (d : RegNum) (b : RegNum) (j : RegNum) (rs : RegNum) (y : BitVec 2) (u : Bool)
  /-- LD8, fmt32dbjn (44_loadstore.md R236) -/
  | ld8Dbjn (d : RegNum) (b : RegNum) (j : RegNum) (n : Imm5) (y : BitVec 2) (u : Bool)
  /-- LD16, fmt24dbj (44_loadstore.md R237) -/
  | ld16Dbj (d : RegNum) (b : RegNum) (j : RegNum)
  /-- LD16, fmt24dbn (44_loadstore.md R237) -/
  | ld16Dbn (d : RegNum) (b : RegNum) (n : Imm5)
  /-- LD16, fmt32dbjs (44_loadstore.md R237) -/
  | ld16Dbjs (d : RegNum) (b : RegNum) (j : RegNum) (rs : RegNum) (y : BitVec 2) (u : Bool)
  /-- LD16, fmt32dbjn (44_loadstore.md R237) -/
  | ld16Dbjn (d : RegNum) (b : RegNum) (j : RegNum) (n : Imm5) (y : BitVec 2) (u : Bool)
  /-- LD24, fmt24dbj (44_loadstore.md R238) -/
  | ld24Dbj (d : RegNum) (b : RegNum) (j : RegNum)
  /-- LD24, fmt24dbn (44_loadstore.md R238) -/
  | ld24Dbn (d : RegNum) (b : RegNum) (n : Imm5)
  /-- LD24, fmt32dbjs (44_loadstore.md R238) -/
  | ld24Dbjs (d : RegNum) (b : RegNum) (j : RegNum) (rs : RegNum) (y : BitVec 2) (u : Bool)
  /-- LD24, fmt32dbjn (44_loadstore.md R238) -/
  | ld24Dbjn (d : RegNum) (b : RegNum) (j : RegNum) (n : Imm5) (y : BitVec 2) (u : Bool)
  /-- LD32, fmt24dbj (44_loadstore.md R239) -/
  | ld32Dbj (d : RegNum) (b : RegNum) (j : RegNum)
  /-- LD32, fmt24dbn (44_loadstore.md R239) -/
  | ld32Dbn (d : RegNum) (b : RegNum) (n : Imm5)
  /-- LD32, fmt32dbjs (44_loadstore.md R239) -/
  | ld32Dbjs (d : RegNum) (b : RegNum) (j : RegNum) (rs : RegNum) (y : BitVec 2) (u : Bool)
  /-- LD32, fmt32dbjn (44_loadstore.md R239) -/
  | ld32Dbjn (d : RegNum) (b : RegNum) (j : RegNum) (n : Imm5) (y : BitVec 2) (u : Bool)
  /-- FLD8, fmt24dbj (44_loadstore.md R240) -/
  | fld8Dbj (d : RegNum) (b : RegNum) (j : RegNum)
  /-- FLD8, fmt24dbn (44_loadstore.md R240) -/
  | fld8Dbn (d : RegNum) (b : RegNum) (n : Imm5)
  /-- FLD8, fmt32dbjs (44_loadstore.md R240) -/
  | fld8Dbjs (d : RegNum) (b : RegNum) (j : RegNum) (rs : RegNum) (y : BitVec 2) (u : Bool)
  /-- FLD8, fmt32dbjn (44_loadstore.md R240) -/
  | fld8Dbjn (d : RegNum) (b : RegNum) (j : RegNum) (n : Imm5) (y : BitVec 2) (u : Bool)
  /-- FLD16, fmt24dbj (44_loadstore.md R241) -/
  | fld16Dbj (d : RegNum) (b : RegNum) (j : RegNum)
  /-- FLD16, fmt24dbn (44_loadstore.md R241) -/
  | fld16Dbn (d : RegNum) (b : RegNum) (n : Imm5)
  /-- FLD16, fmt32dbjs (44_loadstore.md R241) -/
  | fld16Dbjs (d : RegNum) (b : RegNum) (j : RegNum) (rs : RegNum) (y : BitVec 2) (u : Bool)
  /-- FLD16, fmt32dbjn (44_loadstore.md R241) -/
  | fld16Dbjn (d : RegNum) (b : RegNum) (j : RegNum) (n : Imm5) (y : BitVec 2) (u : Bool)
  /-- FLD24, fmt24dbj (44_loadstore.md R242) -/
  | fld24Dbj (d : RegNum) (b : RegNum) (j : RegNum)
  /-- FLD24, fmt24dbn (44_loadstore.md R242) -/
  | fld24Dbn (d : RegNum) (b : RegNum) (n : Imm5)
  /-- FLD24, fmt32dbjs (44_loadstore.md R242) -/
  | fld24Dbjs (d : RegNum) (b : RegNum) (j : RegNum) (rs : RegNum) (y : BitVec 2) (u : Bool)
  /-- FLD24, fmt32dbjn (44_loadstore.md R242) -/
  | fld24Dbjn (d : RegNum) (b : RegNum) (j : RegNum) (n : Imm5) (y : BitVec 2) (u : Bool)
  /-- FLD32, fmt24dbj (44_loadstore.md R243) -/
  | fld32Dbj (d : RegNum) (b : RegNum) (j : RegNum)
  /-- FLD32, fmt24dbn (44_loadstore.md R243) -/
  | fld32Dbn (d : RegNum) (b : RegNum) (n : Imm5)
  /-- FLD32, fmt32dbjs (44_loadstore.md R243) -/
  | fld32Dbjs (d : RegNum) (b : RegNum) (j : RegNum) (rs : RegNum) (y : BitVec 2) (u : Bool)
  /-- FLD32, fmt32dbjn (44_loadstore.md R243) -/
  | fld32Dbjn (d : RegNum) (b : RegNum) (j : RegNum) (n : Imm5) (y : BitVec 2) (u : Bool)
  /-- PLD8, fmt24dbj (44_loadstore.md R244) -/
  | pld8Dbj (d : RegNum) (b : RegNum) (j : RegNum)
  /-- PLD8, fmt24dbn (44_loadstore.md R244) -/
  | pld8Dbn (d : RegNum) (b : RegNum) (n : Imm5)
  /-- PLD8, fmt32dbjs (44_loadstore.md R244) -/
  | pld8Dbjs (d : RegNum) (b : RegNum) (j : RegNum) (rs : RegNum) (y : BitVec 2) (u : Bool)
  /-- PLD8, fmt32dbjn (44_loadstore.md R244) -/
  | pld8Dbjn (d : RegNum) (b : RegNum) (j : RegNum) (n : Imm5) (y : BitVec 2) (u : Bool)
  /-- PLD16, fmt24dbj (44_loadstore.md R245) -/
  | pld16Dbj (d : RegNum) (b : RegNum) (j : RegNum)
  /-- PLD16, fmt24dbn (44_loadstore.md R245) -/
  | pld16Dbn (d : RegNum) (b : RegNum) (n : Imm5)
  /-- PLD16, fmt32dbjs (44_loadstore.md R245) -/
  | pld16Dbjs (d : RegNum) (b : RegNum) (j : RegNum) (rs : RegNum) (y : BitVec 2) (u : Bool)
  /-- PLD16, fmt32dbjn (44_loadstore.md R245) -/
  | pld16Dbjn (d : RegNum) (b : RegNum) (j : RegNum) (n : Imm5) (y : BitVec 2) (u : Bool)
  /-- PLD24, fmt24dbj (44_loadstore.md R246) -/
  | pld24Dbj (d : RegNum) (b : RegNum) (j : RegNum)
  /-- PLD24, fmt24dbn (44_loadstore.md R246) -/
  | pld24Dbn (d : RegNum) (b : RegNum) (n : Imm5)
  /-- PLD24, fmt32dbjs (44_loadstore.md R246) -/
  | pld24Dbjs (d : RegNum) (b : RegNum) (j : RegNum) (rs : RegNum) (y : BitVec 2) (u : Bool)
  /-- PLD24, fmt32dbjn (44_loadstore.md R246) -/
  | pld24Dbjn (d : RegNum) (b : RegNum) (j : RegNum) (n : Imm5) (y : BitVec 2) (u : Bool)
  /-- PLD32, fmt24dbj (44_loadstore.md R247) -/
  | pld32Dbj (d : RegNum) (b : RegNum) (j : RegNum)
  /-- PLD32, fmt24dbn (44_loadstore.md R247) -/
  | pld32Dbn (d : RegNum) (b : RegNum) (n : Imm5)
  /-- PLD32, fmt32dbjs (44_loadstore.md R247) -/
  | pld32Dbjs (d : RegNum) (b : RegNum) (j : RegNum) (rs : RegNum) (y : BitVec 2) (u : Bool)
  /-- PLD32, fmt32dbjn (44_loadstore.md R247) -/
  | pld32Dbjn (d : RegNum) (b : RegNum) (j : RegNum) (n : Imm5) (y : BitVec 2) (u : Bool)
  /-- LEA8, fmt32dbjs (44_loadstore.md R252) -/
  | lea8Dbjs (d : RegNum) (b : RegNum) (j : RegNum) (rs : RegNum) (y : BitVec 2) (u : Bool)
  /-- LEA8, fmt32dbjn (44_loadstore.md R252) -/
  | lea8Dbjn (d : RegNum) (b : RegNum) (j : RegNum) (n : Imm5) (y : BitVec 2) (u : Bool)
  /-- LEA16, fmt32dbjs (44_loadstore.md R253) -/
  | lea16Dbjs (d : RegNum) (b : RegNum) (j : RegNum) (rs : RegNum) (y : BitVec 2) (u : Bool)
  /-- LEA16, fmt32dbjn (44_loadstore.md R253) -/
  | lea16Dbjn (d : RegNum) (b : RegNum) (j : RegNum) (n : Imm5) (y : BitVec 2) (u : Bool)
  /-- LEA24, fmt32dbjs (44_loadstore.md R254) -/
  | lea24Dbjs (d : RegNum) (b : RegNum) (j : RegNum) (rs : RegNum) (y : BitVec 2) (u : Bool)
  /-- LEA24, fmt32dbjn (44_loadstore.md R254) -/
  | lea24Dbjn (d : RegNum) (b : RegNum) (j : RegNum) (n : Imm5) (y : BitVec 2) (u : Bool)
  /-- LEA32, fmt32dbjs (44_loadstore.md R255) -/
  | lea32Dbjs (d : RegNum) (b : RegNum) (j : RegNum) (rs : RegNum) (y : BitVec 2) (u : Bool)
  /-- LEA32, fmt32dbjn (44_loadstore.md R255) -/
  | lea32Dbjn (d : RegNum) (b : RegNum) (j : RegNum) (n : Imm5) (y : BitVec 2) (u : Bool)
  /-- CALL, fmt24dbj (45_control.md R272) -/
  | callDbj (d : RegNum) (b : RegNum) (j : RegNum)
  /-- CALL, fmt24dbn (45_control.md R272) -/
  | callDbn (d : RegNum) (b : RegNum) (n : Imm5)
  /-- CALL, fmt32dbjs (45_control.md R272) -/
  | callDbjs (d : RegNum) (b : RegNum) (j : RegNum) (rs : RegNum) (y : BitVec 2) (u : Bool)
  /-- CALL, fmt32dbjn (45_control.md R272) -/
  | callDbjn (d : RegNum) (b : RegNum) (j : RegNum) (n : Imm5) (y : BitVec 2) (u : Bool)
  /-- ADD, fmt24drs (40_addsub.md R151) -/
  | add (d : RegNum) (r : RegNum) (rs : RegNum)
  /-- ADDI, fmt24drn (40_addsub.md R152) -/
  | addi (d : RegNum) (r : RegNum) (n : Imm5)
  /-- SUB, fmt24drs (40_addsub.md R155) -/
  | sub (d : RegNum) (r : RegNum) (rs : RegNum)
  /-- SUBI, fmt24drn (40_addsub.md R156) -/
  | subi (d : RegNum) (r : RegNum) (n : Imm5)
  /-- MUL, fmt24drs (42_muldiv.md R186) -/
  | mul (d : RegNum) (r : RegNum) (rs : RegNum)
  /-- MULI, fmt24drn (42_muldiv.md R187) -/
  | muli (d : RegNum) (r : RegNum) (n : Imm5)
  /-- DIV, fmt24drs (42_muldiv.md R190) -/
  | div (d : RegNum) (r : RegNum) (rs : RegNum)
  /-- DIVI, fmt24drn (42_muldiv.md R191) -/
  | divi (d : RegNum) (r : RegNum) (n : Imm5)
  /-- ADDNU, fmt24drs (40_addsub.md R153) -/
  | addnu (d : RegNum) (r : RegNum) (rs : RegNum)
  /-- ADDNUI, fmt24drn (40_addsub.md R154) -/
  | addnui (d : RegNum) (r : RegNum) (n : Imm5)
  /-- SUBNU, fmt24drs (40_addsub.md R157) -/
  | subnu (d : RegNum) (r : RegNum) (rs : RegNum)
  /-- SUBNUI, fmt24drn (40_addsub.md R158) -/
  | subnui (d : RegNum) (r : RegNum) (n : Imm5)
  /-- MULNU, fmt24drs (42_muldiv.md R188) -/
  | mulnu (d : RegNum) (r : RegNum) (rs : RegNum)
  /-- MULNUI, fmt24drn (42_muldiv.md R189) -/
  | mulnui (d : RegNum) (r : RegNum) (n : Imm5)
  /-- DIVNU, fmt24drs (42_muldiv.md R192) -/
  | divnu (d : RegNum) (r : RegNum) (rs : RegNum)
  /-- DIVNUI, fmt24drn (42_muldiv.md R193) -/
  | divnui (d : RegNum) (r : RegNum) (n : Imm5)
  /-- AND, fmt24drs (41_boolean.md R171) -/
  | and (d : RegNum) (r : RegNum) (rs : RegNum)
  /-- ANDI, fmt24drn (41_boolean.md R172) -/
  | andi (d : RegNum) (r : RegNum) (n : Imm5)
  /-- OR, fmt24drs (41_boolean.md R173) -/
  | or (d : RegNum) (r : RegNum) (rs : RegNum)
  /-- ORI, fmt24drn (41_boolean.md R174) -/
  | ori (d : RegNum) (r : RegNum) (n : Imm5)
  /-- XOR, fmt24drs (41_boolean.md R175) -/
  | xor (d : RegNum) (r : RegNum) (rs : RegNum)
  /-- XORI, fmt24drn (41_boolean.md R176) -/
  | xori (d : RegNum) (r : RegNum) (n : Imm5)
  /-- CMP, fmt24drs (40_addsub.md R163) -/
  | cmp (d : RegNum) (r : RegNum) (rs : RegNum)
  /-- CMPI, fmt24drn (40_addsub.md R164) -/
  | cmpi (d : RegNum) (r : RegNum) (n : Imm5)
  /-- EXTRCT, fmt24drs (43_shift_bitfield.md R215) -/
  | extrct (d : RegNum) (r : RegNum) (rs : RegNum)
  /-- EXTRCTI, fmt24drn (43_shift_bitfield.md R216) -/
  | extrcti (d : RegNum) (r : RegNum) (n : Imm5)
  /-- LSR, fmt24drs (43_shift_bitfield.md R202) -/
  | lsr (d : RegNum) (r : RegNum) (rs : RegNum)
  /-- LSRI, fmt24drn (43_shift_bitfield.md R203) -/
  | lsri (d : RegNum) (r : RegNum) (n : Imm5)
  /-- ASR, fmt24drs (43_shift_bitfield.md R204) -/
  | asr (d : RegNum) (r : RegNum) (rs : RegNum)
  /-- ASRI, fmt24drn (43_shift_bitfield.md R205) -/
  | asri (d : RegNum) (r : RegNum) (n : Imm5)
  /-- ROR, fmt24drs (43_shift_bitfield.md R206) -/
  | ror (d : RegNum) (r : RegNum) (rs : RegNum)
  /-- RORI, fmt24drn (43_shift_bitfield.md R207) -/
  | rori (d : RegNum) (r : RegNum) (n : Imm5)
  /-- VECT, fmt24dn (45_control.md R280) -/
  | vect (d : RegNum) (n : BitVec 11)
  /-- LOOP, fmt24drs (45_control.md R276) -/
  | loop (d : RegNum) (r : RegNum) (rs : RegNum)
  /-- LOOPI, fmt24drn (45_control.md R276) -/
  | loopi (d : RegNum) (r : RegNum) (f : BitVec 5)
  /-- MAX, fmt24drs (46_irregular.md R291) -/
  | max (d : RegNum) (r : RegNum) (rs : RegNum)
  /-- MAXI, fmt24drn (46_irregular.md R292) -/
  | maxi (d : RegNum) (r : RegNum) (n : Imm5)
  /-- MIN, fmt24drs (46_irregular.md R293) -/
  | min (d : RegNum) (r : RegNum) (rs : RegNum)
  /-- MINI, fmt24drn (46_irregular.md R294) -/
  | mini (d : RegNum) (r : RegNum) (n : Imm5)
  /-- ADD3, fmt32drst (40_addsub.md R159) -/
  | add3 (d : RegNum) (r : RegNum) (rs : RegNum) (rt : RegNum) (zz : BitVec 2) (u : Bool)
  /-- ADD3I, fmt32drnt (40_addsub.md R160) -/
  | add3i (d : RegNum) (r : RegNum) (n : Imm5) (rt : RegNum) (zz : BitVec 2) (u : Bool)
  /-- SUB3, fmt32drst (40_addsub.md R161) -/
  | sub3 (d : RegNum) (r : RegNum) (rs : RegNum) (rt : RegNum) (zz : BitVec 2) (u : Bool)
  /-- SUB3I, fmt32drnt (40_addsub.md R162) -/
  | sub3i (d : RegNum) (r : RegNum) (n : Imm5) (rt : RegNum) (zz : BitVec 2) (u : Bool)
  /-- MAC, fmt32drst (42_muldiv.md R194) -/
  | mac (d : RegNum) (r : RegNum) (rs : RegNum) (rt : RegNum) (zz : BitVec 2) (u : Bool)
  /-- MACI, fmt32drnt (42_muldiv.md R195) -/
  | maci (d : RegNum) (r : RegNum) (n : Imm5) (rt : RegNum) (zz : BitVec 2) (u : Bool)
  /-- DDIV, fmt32drst (42_muldiv.md R196) -/
  | ddiv (d : RegNum) (r : RegNum) (rs : RegNum) (rt : RegNum) (zz : BitVec 2) (u : Bool)
  /-- DDIVI, fmt32drnt (42_muldiv.md R197) -/
  | ddivi (d : RegNum) (r : RegNum) (n : Imm5) (rt : RegNum) (zz : BitVec 2) (u : Bool)
  /-- AND3, fmt32drst (41_boolean.md R177) -/
  | and3 (d : RegNum) (r : RegNum) (rs : RegNum) (rt : RegNum) (zz : BitVec 2) (u : Bool)
  /-- AND3I, fmt32drnt (41_boolean.md R178) -/
  | and3i (d : RegNum) (r : RegNum) (n : Imm5) (rt : RegNum) (zz : BitVec 2) (u : Bool)
  /-- OR3, fmt32drst (41_boolean.md R179) -/
  | or3 (d : RegNum) (r : RegNum) (rs : RegNum) (rt : RegNum) (zz : BitVec 2) (u : Bool)
  /-- OR3I, fmt32drnt (41_boolean.md R180) -/
  | or3i (d : RegNum) (r : RegNum) (n : Imm5) (rt : RegNum) (zz : BitVec 2) (u : Bool)
  /-- XOR3, fmt32drst (41_boolean.md R181) -/
  | xor3 (d : RegNum) (r : RegNum) (rs : RegNum) (rt : RegNum) (zz : BitVec 2) (u : Bool)
  /-- XOR3I, fmt32drnt (41_boolean.md R182) -/
  | xor3i (d : RegNum) (r : RegNum) (n : Imm5) (rt : RegNum) (zz : BitVec 2) (u : Bool)
  /-- INSRT, fmt32drst (43_shift_bitfield.md R219) -/
  | insrt (d : RegNum) (r : RegNum) (rs : RegNum) (rt : RegNum) (zz : BitVec 2) (u : Bool)
  /-- INSRTI, fmt32drnt (43_shift_bitfield.md R220) -/
  | insrti (d : RegNum) (r : RegNum) (n : Imm5) (rt : RegNum) (zz : BitVec 2) (u : Bool)
  /-- EXTRCT, fmt32drst (43_shift_bitfield.md R217) -/
  | extrctD (d : RegNum) (r : RegNum) (rs : RegNum) (rt : RegNum) (zz : BitVec 2) (u : Bool)
  /-- EXTRCTI, fmt32drnt (43_shift_bitfield.md R218) -/
  | extrctiD (d : RegNum) (r : RegNum) (n : Imm5) (rt : RegNum) (zz : BitVec 2) (u : Bool)
  /-- SHR, fmt32drst (43_shift_bitfield.md R209) -/
  | shr (d : RegNum) (r : RegNum) (rs : RegNum) (rt : RegNum) (zz : BitVec 2) (u : Bool)
  /-- SHRI, fmt32drnt (43_shift_bitfield.md R210) -/
  | shri (d : RegNum) (r : RegNum) (n : Imm5) (rt : RegNum) (zz : BitVec 2) (u : Bool)
  /-- ASR, fmt32drst (43_shift_bitfield.md R211) -/
  | asrD (d : RegNum) (r : RegNum) (rs : RegNum) (rt : RegNum) (zz : BitVec 2) (u : Bool)
  /-- ASRI, fmt32drnt (43_shift_bitfield.md R212) -/
  | asriD (d : RegNum) (r : RegNum) (n : Imm5) (rt : RegNum) (zz : BitVec 2) (u : Bool)
  /-- ROR, fmt32drst (43_shift_bitfield.md R213) -/
  | rorD (d : RegNum) (r : RegNum) (rs : RegNum) (rt : RegNum) (zz : BitVec 2) (u : Bool)
  /-- RORI, fmt32drnt (43_shift_bitfield.md R214) -/
  | roriD (d : RegNum) (r : RegNum) (n : Imm5) (rt : RegNum) (zz : BitVec 2) (u : Bool)
  /-- MAX3, fmt32drst (46_irregular.md R295) -/
  | max3 (d : RegNum) (r : RegNum) (rs : RegNum) (rt : RegNum) (zz : BitVec 2) (u : Bool)
  /-- MAX3I, fmt32drnt (46_irregular.md R296) -/
  | max3i (d : RegNum) (r : RegNum) (n : Imm5) (rt : RegNum) (zz : BitVec 2) (u : Bool)
  /-- MIN3, fmt32drst (46_irregular.md R297) -/
  | min3 (d : RegNum) (r : RegNum) (rs : RegNum) (rt : RegNum) (zz : BitVec 2) (u : Bool)
  /-- MIN3I, fmt32drnt (46_irregular.md R298) -/
  | min3i (d : RegNum) (r : RegNum) (n : Imm5) (rt : RegNum) (zz : BitVec 2) (u : Bool)
  /-- MEDIAN3, fmt32drst (46_irregular.md R299) -/
  | median3 (d : RegNum) (r : RegNum) (rs : RegNum) (rt : RegNum) (zz : BitVec 2) (u : Bool)
  /-- MEDIAN3, fmt32drnt (46_irregular.md R299) -/
  | median3I (d : RegNum) (r : RegNum) (n : Imm5) (rt : RegNum) (zz : BitVec 2) (u : Bool)
  /-- INTP, fmt32drst, fmt32drnt (46_irregular.md R300) -/
  | intp (f : BitVec 24)
  /-- LUT, fmt32drst, fmt32drnt (46_irregular.md R301) -/
  | lut (f : BitVec 24)
  /-- CMOV, fmt32drst, fmt32drnt (43_shift_bitfield.md R222) -/
  | cmov (f : BitVec 24)
  /-- 32-bit single operand container, fmt32ds (47_single_operand.md R314) -/
  | container32 (f : BitVec 24)
  /-- MMOV, fmt32 (46_irregular.md R302) -/
  | mmov (f : BitVec 24)
  /-- PCND, fmt32 (45_control.md R281) -/
  | pcnd (f : BitVec 24)
  /-- PCB1, fmt32 (45_control.md R279) -/
  | pcb1 (f : BitVec 24)
  /-- STM, fmt32drst, fmt32drnt (46_irregular.md R304) -/
  | stm (f : BitVec 24)
  /-- LDM, fmt32drst, fmt32drnt (46_irregular.md R303) -/
  | ldm (f : BitVec 24)
  /-- TT, fmt32 (46_irregular.md R305) -/
  | tt (f : BitVec 24)
  /-- IN, fmt24ds (47_single_operand.md R315) -/
  | inp (d : RegNum) (rs : RegNum) (z : Bool)
  /-- OUT, fmt24ds (47_single_operand.md R316) -/
  | out (d : RegNum) (rs : RegNum) (z : Bool)
  /-- MOV, fmt24ds (47_single_operand.md R317) -/
  | mov (d : RegNum) (rs : RegNum) (z : Bool)
  /-- NOT, fmt24ds (47_single_operand.md R319) -/
  | not (d : RegNum) (rs : RegNum) (z : Bool)
  /-- NEG, fmt24ds (47_single_operand.md R320) -/
  | neg (d : RegNum) (rs : RegNum) (z : Bool)
  /-- INC, fmt24ds (47_single_operand.md R321) -/
  | inc (d : RegNum) (rs : RegNum) (z : Bool)
  /-- DEC, fmt24ds (47_single_operand.md R322) -/
  | dec (d : RegNum) (rs : RegNum) (z : Bool)
  /-- ABS, fmt24ds (47_single_operand.md R323) -/
  | abs (d : RegNum) (rs : RegNum) (z : Bool)
  /-- NABS, fmt24ds (47_single_operand.md R324) -/
  | nabs (d : RegNum) (rs : RegNum) (z : Bool)
  /-- LDZCNT, fmt24ds (47_single_operand.md R325) -/
  | ldzcnt (d : RegNum) (rs : RegNum) (z : Bool)
  /-- LD1CNT, fmt24ds (47_single_operand.md R326) -/
  | ld1cnt (d : RegNum) (rs : RegNum) (z : Bool)
  /-- TRZCNT, fmt24ds (47_single_operand.md R327) -/
  | trzcnt (d : RegNum) (rs : RegNum) (z : Bool)
  /-- TR1CNT, fmt24ds (47_single_operand.md R328) -/
  | tr1cnt (d : RegNum) (rs : RegNum) (z : Bool)
  /-- POPCNT, fmt24ds (47_single_operand.md R329) -/
  | popcnt (d : RegNum) (rs : RegNum) (z : Bool)
  /-- SQRT, fmt24ds (47_single_operand.md R330) -/
  | sqrt (d : RegNum) (rs : RegNum) (z : Bool)
  /-- SINPI, fmt24ds (47_single_operand.md R331) -/
  | sinpi (d : RegNum) (rs : RegNum) (z : Bool)
  /-- COSPI, fmt24ds (47_single_operand.md R332) -/
  | cospi (d : RegNum) (rs : RegNum) (z : Bool)
  /-- TANPI, fmt24ds (47_single_operand.md R333) -/
  | tanpi (d : RegNum) (rs : RegNum) (z : Bool)
  /-- ASINPI, fmt24ds (47_single_operand.md R334) -/
  | asinpi (d : RegNum) (rs : RegNum) (z : Bool)
  /-- ACOSPI, fmt24ds (47_single_operand.md R335) -/
  | acospi (d : RegNum) (rs : RegNum) (z : Bool)
  /-- ATANPI, fmt24ds (47_single_operand.md R336) -/
  | atanpi (d : RegNum) (rs : RegNum) (z : Bool)
  /-- INT, fmt24ds (47_single_operand.md R337) -/
  | int (d : RegNum) (rs : RegNum) (z : Bool)
  /-- FLT, fmt24ds (47_single_operand.md R338) -/
  | flt (d : RegNum) (rs : RegNum) (z : Bool)
  /-- EXPON, fmt24ds (47_single_operand.md R340) -/
  | expon (d : RegNum) (rs : RegNum) (z : Bool)
  /-- FRACT, fmt24ds (47_single_operand.md R341) -/
  | fract (d : RegNum) (rs : RegNum) (z : Bool)
  /-- FSQRT, fmt24ds (47_single_operand.md R342) -/
  | fsqrt (d : RegNum) (rs : RegNum) (z : Bool)
  /-- FRSQRT, fmt24ds (47_single_operand.md R343) -/
  | frsqrt (d : RegNum) (rs : RegNum) (z : Bool)
  /-- FRCP, fmt24ds (47_single_operand.md R344) -/
  | frcp (d : RegNum) (rs : RegNum) (z : Bool)
  /-- LN2P1, fmt24ds (47_single_operand.md R345) -/
  | ln2p1 (d : RegNum) (rs : RegNum) (z : Bool)
  /-- LN2, fmt24ds (47_single_operand.md R346) -/
  | ln2 (d : RegNum) (rs : RegNum) (z : Bool)
  /-- EXP2M1, fmt24ds (47_single_operand.md R351) -/
  | exp2m1 (d : RegNum) (rs : RegNum) (z : Bool)
  /-- EXP2, fmt24ds (47_single_operand.md R352) -/
  | exp2 (d : RegNum) (rs : RegNum) (z : Bool)
  /-- RND, fmt24ds (47_single_operand.md R363) -/
  | rnd (d : RegNum) (rs : RegNum) (z : Bool)
  /-- RNDTEV, fmt24ds (47_single_operand.md R364) -/
  | rndtev (d : RegNum) (rs : RegNum) (z : Bool)
  /-- RNDTOD, fmt24ds (47_single_operand.md R365) -/
  | rndtod (d : RegNum) (rs : RegNum) (z : Bool)
  /-- RNDTZ, fmt24ds (47_single_operand.md R366) -/
  | rndtz (d : RegNum) (rs : RegNum) (z : Bool)
  /-- RNDFZ, fmt24ds (47_single_operand.md R367) -/
  | rndfz (d : RegNum) (rs : RegNum) (z : Bool)
  /-- CEIL, fmt24ds (47_single_operand.md R368) -/
  | ceil (d : RegNum) (rs : RegNum) (z : Bool)
  /-- FLOOR, fmt24ds (47_single_operand.md R369) -/
  | floor (d : RegNum) (rs : RegNum) (z : Bool)
  /-- TRAP, fmt8 (45_control.md R261) -/
  | trap
  /-- BRK, fmt8 (45_control.md R264) -/
  | brk
  /-- NXTH, fmt8 (45_control.md R262) -/
  | nxth
  /-- NXTW, fmt8 (45_control.md R263) -/
  | nxtw
  /-- CVT, fmt32ds (47_single_operand.md R339); it has no encoding of its own -/
  | cvt
  /-- LNP1, fmt32ds (47_single_operand.md R347); it has no encoding of its own -/
  | lnp1
  /-- LN, fmt32ds (47_single_operand.md R348); it has no encoding of its own -/
  | ln
  /-- LOGP1, fmt32ds (47_single_operand.md R349); it has no encoding of its own -/
  | logp1
  /-- LOG, fmt32ds (47_single_operand.md R350); it has no encoding of its own -/
  | log
  /-- EXPM1, fmt32ds (47_single_operand.md R353); it has no encoding of its own -/
  | expm1
  /-- EXP, fmt32ds (47_single_operand.md R354); it has no encoding of its own -/
  | exp
  /-- EXP10M1, fmt32ds (47_single_operand.md R355); it has no encoding of its own -/
  | exp10m1
  /-- EXP10, fmt32ds (47_single_operand.md R356); it has no encoding of its own -/
  | exp10
  /-- SIN, fmt32ds (47_single_operand.md R357); it has no encoding of its own -/
  | sin
  /-- COS, fmt32ds (47_single_operand.md R358); it has no encoding of its own -/
  | cos
  /-- TAN, fmt32ds (47_single_operand.md R359); it has no encoding of its own -/
  | tan
  /-- ASIN, fmt32ds (47_single_operand.md R360); it has no encoding of its own -/
  | asin
  /-- ACOS, fmt32ds (47_single_operand.md R361); it has no encoding of its own -/
  | acos
  /-- ATAN, fmt32ds (47_single_operand.md R362); it has no encoding of its own -/
  | atan
  /-- MOVI, fmt24ds, fmt32ds (47_single_operand.md R318); it has no encoding of its own -/
  | movi
  /-- MERG, fmt32drst, fmt32drnt (43_shift_bitfield.md R221); it has no encoding of its own -/
  | merg
  /-- EADD, fmt32drst, fmt32drnt (46_irregular.md R306); it has no encoding of its own -/
  | eadd
  /-- MV2, fmt32 (46_irregular.md R307); it has no encoding of its own -/
  | mv2
  /-- SHL, fmt32drsc, fmt32drnc (46_irregular.md R308); it has no encoding of its own -/
  | shl
  deriving DecidableEq, Repr

end Sys2Proof
end

