-- ==== Sys2Proof/WellFormed.lean ====
section
/-! DEFINITION. Which instruction terms have an encoding. The field types already bound every field; what is left to
check is that the row has an opcode (30_encoding.md R110, 46_irregular.md R306 to R308, 47_single_operand.md R314, R318)
and, for the single operand rows, that `subop24` gives the mnemonic a sub-opcode (47_single_operand.md R312). -/

namespace Sys2Proof

/-- `subop24` names the mnemonic: some sub-opcode decodes to it. -/
def SingleOp.assigned (m : SingleOp) : Bool :=
  match Config.subopCode m with
  | some k => decide (subop24 k = some m)
  | none => false

/-- The instruction can stand in memory. -/
def WellFormed : Instr → Bool
  | .br _ => true
  | .callr _ => true
  | .bbs _ _ _ => true
  | .bbc _ _ _ => true
  | .brz24 _ _ => true
  | .brgz24 _ _ => true
  | .brgez24 _ _ => true
  | .brev24 _ _ => true
  | .brnz24 _ _ => true
  | .brlez24 _ _ => true
  | .brlz24 _ _ => true
  | .brod24 _ _ => true
  | .brz32 _ _ => true
  | .brgz32 _ _ => true
  | .brgez32 _ _ => true
  | .brev32 _ _ => true
  | .brnz32 _ _ => true
  | .brlez32 _ _ => true
  | .brlz32 _ _ => true
  | .brod32 _ _ => true
  | .ldi8 _ _ _ => true
  | .ldi16 _ _ _ => true
  | .ldi24 _ _ _ => true
  | .ldi32 _ _ _ => true
  | .enter _ => true
  | .exit _ => true
  | .st8Dbj _ _ _ => true
  | .st8Dbn _ _ _ => true
  | .st8Dbjs _ _ _ _ _ => true
  | .st8Dbjn _ _ _ _ _ => true
  | .st8Mbjs _ _ _ _ _ => true
  | .st8Mbjn _ _ _ _ _ => true
  | .st16Dbj _ _ _ => true
  | .st16Dbn _ _ _ => true
  | .st16Dbjs _ _ _ _ _ => true
  | .st16Dbjn _ _ _ _ _ => true
  | .st16Mbjs _ _ _ _ _ => true
  | .st16Mbjn _ _ _ _ _ => true
  | .st24Dbj _ _ _ => true
  | .st24Dbn _ _ _ => true
  | .st24Dbjs _ _ _ _ _ => true
  | .st24Dbjn _ _ _ _ _ => true
  | .st24Mbjs _ _ _ _ _ => true
  | .st24Mbjn _ _ _ _ _ => true
  | .st32Dbj _ _ _ => true
  | .st32Dbn _ _ _ => true
  | .st32Dbjs _ _ _ _ _ => true
  | .st32Dbjn _ _ _ _ _ => true
  | .st32Mbjs _ _ _ _ _ => true
  | .st32Mbjn _ _ _ _ _ => true
  | .ldu8Dbj _ _ _ => true
  | .ldu8Dbn _ _ _ => true
  | .ldu8Dbjs _ _ _ _ _ _ => true
  | .ldu8Dbjn _ _ _ _ _ _ => true
  | .ldu16Dbj _ _ _ => true
  | .ldu16Dbn _ _ _ => true
  | .ldu16Dbjs _ _ _ _ _ _ => true
  | .ldu16Dbjn _ _ _ _ _ _ => true
  | .ldu24Dbj _ _ _ => true
  | .ldu24Dbn _ _ _ => true
  | .ldu24Dbjs _ _ _ _ _ _ => true
  | .ldu24Dbjn _ _ _ _ _ _ => true
  | .ldu32Dbj _ _ _ => true
  | .ldu32Dbn _ _ _ => true
  | .ldu32Dbjs _ _ _ _ _ _ => true
  | .ldu32Dbjn _ _ _ _ _ _ => true
  | .ld8Dbj _ _ _ => true
  | .ld8Dbn _ _ _ => true
  | .ld8Dbjs _ _ _ _ _ _ => true
  | .ld8Dbjn _ _ _ _ _ _ => true
  | .ld16Dbj _ _ _ => true
  | .ld16Dbn _ _ _ => true
  | .ld16Dbjs _ _ _ _ _ _ => true
  | .ld16Dbjn _ _ _ _ _ _ => true
  | .ld24Dbj _ _ _ => true
  | .ld24Dbn _ _ _ => true
  | .ld24Dbjs _ _ _ _ _ _ => true
  | .ld24Dbjn _ _ _ _ _ _ => true
  | .ld32Dbj _ _ _ => true
  | .ld32Dbn _ _ _ => true
  | .ld32Dbjs _ _ _ _ _ _ => true
  | .ld32Dbjn _ _ _ _ _ _ => true
  | .fld8Dbj _ _ _ => true
  | .fld8Dbn _ _ _ => true
  | .fld8Dbjs _ _ _ _ _ _ => true
  | .fld8Dbjn _ _ _ _ _ _ => true
  | .fld16Dbj _ _ _ => true
  | .fld16Dbn _ _ _ => true
  | .fld16Dbjs _ _ _ _ _ _ => true
  | .fld16Dbjn _ _ _ _ _ _ => true
  | .fld24Dbj _ _ _ => true
  | .fld24Dbn _ _ _ => true
  | .fld24Dbjs _ _ _ _ _ _ => true
  | .fld24Dbjn _ _ _ _ _ _ => true
  | .fld32Dbj _ _ _ => true
  | .fld32Dbn _ _ _ => true
  | .fld32Dbjs _ _ _ _ _ _ => true
  | .fld32Dbjn _ _ _ _ _ _ => true
  | .pld8Dbj _ _ _ => true
  | .pld8Dbn _ _ _ => true
  | .pld8Dbjs _ _ _ _ _ _ => true
  | .pld8Dbjn _ _ _ _ _ _ => true
  | .pld16Dbj _ _ _ => true
  | .pld16Dbn _ _ _ => true
  | .pld16Dbjs _ _ _ _ _ _ => true
  | .pld16Dbjn _ _ _ _ _ _ => true
  | .pld24Dbj _ _ _ => true
  | .pld24Dbn _ _ _ => true
  | .pld24Dbjs _ _ _ _ _ _ => true
  | .pld24Dbjn _ _ _ _ _ _ => true
  | .pld32Dbj _ _ _ => true
  | .pld32Dbn _ _ _ => true
  | .pld32Dbjs _ _ _ _ _ _ => true
  | .pld32Dbjn _ _ _ _ _ _ => true
  | .lea8Dbjs _ _ _ _ _ _ => true
  | .lea8Dbjn _ _ _ _ _ _ => true
  | .lea16Dbjs _ _ _ _ _ _ => true
  | .lea16Dbjn _ _ _ _ _ _ => true
  | .lea24Dbjs _ _ _ _ _ _ => true
  | .lea24Dbjn _ _ _ _ _ _ => true
  | .lea32Dbjs _ _ _ _ _ _ => true
  | .lea32Dbjn _ _ _ _ _ _ => true
  | .callDbj _ _ _ => true
  | .callDbn _ _ _ => true
  | .callDbjs _ _ _ _ _ _ => true
  | .callDbjn _ _ _ _ _ _ => true
  | .add _ _ _ => true
  | .addi _ _ _ => true
  | .sub _ _ _ => true
  | .subi _ _ _ => true
  | .mul _ _ _ => true
  | .muli _ _ _ => true
  | .div _ _ _ => true
  | .divi _ _ _ => true
  | .addnu _ _ _ => true
  | .addnui _ _ _ => true
  | .subnu _ _ _ => true
  | .subnui _ _ _ => true
  | .mulnu _ _ _ => true
  | .mulnui _ _ _ => true
  | .divnu _ _ _ => true
  | .divnui _ _ _ => true
  | .and _ _ _ => true
  | .andi _ _ _ => true
  | .or _ _ _ => true
  | .ori _ _ _ => true
  | .xor _ _ _ => true
  | .xori _ _ _ => true
  | .cmp _ _ _ => true
  | .cmpi _ _ _ => true
  | .extrct _ _ _ => true
  | .extrcti _ _ _ => true
  | .lsr _ _ _ => true
  | .lsri _ _ _ => true
  | .asr _ _ _ => true
  | .asri _ _ _ => true
  | .ror _ _ _ => true
  | .rori _ _ _ => true
  | .vect _ _ => true
  | .loop _ _ _ => true
  | .loopi _ _ _ => true
  | .max _ _ _ => true
  | .maxi _ _ _ => true
  | .min _ _ _ => true
  | .mini _ _ _ => true
  | .add3 _ _ _ _ _ _ => true
  | .add3i _ _ _ _ _ _ => true
  | .sub3 _ _ _ _ _ _ => true
  | .sub3i _ _ _ _ _ _ => true
  | .mac _ _ _ _ _ _ => true
  | .maci _ _ _ _ _ _ => true
  | .ddiv _ _ _ _ _ _ => true
  | .ddivi _ _ _ _ _ _ => true
  | .and3 _ _ _ _ _ _ => true
  | .and3i _ _ _ _ _ _ => true
  | .or3 _ _ _ _ _ _ => true
  | .or3i _ _ _ _ _ _ => true
  | .xor3 _ _ _ _ _ _ => true
  | .xor3i _ _ _ _ _ _ => true
  | .insrt _ _ _ _ _ _ => true
  | .insrti _ _ _ _ _ _ => true
  | .extrctD _ _ _ _ _ _ => true
  | .extrctiD _ _ _ _ _ _ => true
  | .shr _ _ _ _ _ _ => true
  | .shri _ _ _ _ _ _ => true
  | .asrD _ _ _ _ _ _ => true
  | .asriD _ _ _ _ _ _ => true
  | .rorD _ _ _ _ _ _ => true
  | .roriD _ _ _ _ _ _ => true
  | .max3 _ _ _ _ _ _ => true
  | .max3i _ _ _ _ _ _ => true
  | .min3 _ _ _ _ _ _ => true
  | .min3i _ _ _ _ _ _ => true
  | .median3 _ _ _ _ _ _ => true
  | .median3I _ _ _ _ _ _ => true
  | .intp _ => true
  | .lut _ => true
  | .cmov _ => true
  | .container32 _ => true
  | .mmov _ => true
  | .pcnd _ => true
  | .pcb1 _ => true
  | .stm _ => true
  | .ldm _ => true
  | .tt _ => true
  | .inp _ _ _ => SingleOp.assigned .inp
  | .out _ _ _ => SingleOp.assigned .out
  | .mov _ _ _ => SingleOp.assigned .mov
  | .not _ _ _ => SingleOp.assigned .not
  | .neg _ _ _ => SingleOp.assigned .neg
  | .inc _ _ _ => SingleOp.assigned .inc
  | .dec _ _ _ => SingleOp.assigned .dec
  | .abs _ _ _ => SingleOp.assigned .abs
  | .nabs _ _ _ => SingleOp.assigned .nabs
  | .ldzcnt _ _ _ => SingleOp.assigned .ldzcnt
  | .ld1cnt _ _ _ => SingleOp.assigned .ld1cnt
  | .trzcnt _ _ _ => SingleOp.assigned .trzcnt
  | .tr1cnt _ _ _ => SingleOp.assigned .tr1cnt
  | .popcnt _ _ _ => SingleOp.assigned .popcnt
  | .sqrt _ _ _ => SingleOp.assigned .sqrt
  | .sinpi _ _ _ => SingleOp.assigned .sinpi
  | .cospi _ _ _ => SingleOp.assigned .cospi
  | .tanpi _ _ _ => SingleOp.assigned .tanpi
  | .asinpi _ _ _ => SingleOp.assigned .asinpi
  | .acospi _ _ _ => SingleOp.assigned .acospi
  | .atanpi _ _ _ => SingleOp.assigned .atanpi
  | .int _ _ _ => SingleOp.assigned .int
  | .flt _ _ _ => SingleOp.assigned .flt
  | .expon _ _ _ => SingleOp.assigned .expon
  | .fract _ _ _ => SingleOp.assigned .fract
  | .fsqrt _ _ _ => SingleOp.assigned .fsqrt
  | .frsqrt _ _ _ => SingleOp.assigned .frsqrt
  | .frcp _ _ _ => SingleOp.assigned .frcp
  | .ln2p1 _ _ _ => SingleOp.assigned .ln2p1
  | .ln2 _ _ _ => SingleOp.assigned .ln2
  | .exp2m1 _ _ _ => SingleOp.assigned .exp2m1
  | .exp2 _ _ _ => SingleOp.assigned .exp2
  | .rnd _ _ _ => SingleOp.assigned .rnd
  | .rndtev _ _ _ => SingleOp.assigned .rndtev
  | .rndtod _ _ _ => SingleOp.assigned .rndtod
  | .rndtz _ _ _ => SingleOp.assigned .rndtz
  | .rndfz _ _ _ => SingleOp.assigned .rndfz
  | .ceil _ _ _ => SingleOp.assigned .ceil
  | .floor _ _ _ => SingleOp.assigned .floor
  | .trap => true
  | .brk => true
  | .nxth => true
  | .nxtw => true
  | .cvt => false
  | .lnp1 => false
  | .ln => false
  | .logp1 => false
  | .log => false
  | .expm1 => false
  | .exp => false
  | .exp10m1 => false
  | .exp10 => false
  | .sin => false
  | .cos => false
  | .tan => false
  | .asin => false
  | .acos => false
  | .atan => false
  | .movi => false
  | .merg => false
  | .eadd => false
  | .mv2 => false
  | .shl => false

end Sys2Proof
end

