-- ==== Sys2Proof/Decode.lean ====
section
/-! DEFINITION. The decoder and the encoder (30_encoding.md). An instruction is a list of bytes, the opcode byte first
(R91); its base is read as one little-endian number, cut into fields by the format's table (R95, R97, R98); the bytes
after the base are the extension bytes of its immediate fields (R100), those of `n` before those of `m` (R117). -/

namespace Sys2Proof

/-! ## Bytes and fields -/

/-- The low `k` bytes of `w`, least significant first (R91). -/
def leBytes : (k w : Nat) → List Byte
  | 0, _ => []
  | k + 1, w => BitVec.ofNat 8 w :: leBytes k (w / 256)

/-- The number a list of bytes stands for, least significant first (R91). -/
def leNat : List Byte → Nat
  | [] => 0
  | b :: bs => b.toNat + 256 * leNat bs

/-- The register number in the five bits of `w` from bit `lo` up. -/
def regField (w lo : Nat) : RegNum := Fin.ofNat 32 (w / 2 ^ lo)

/-- The five bits of `w` from bit `lo` up. -/
def field5 (w lo : Nat) : Nat := w / 2 ^ lo % 32

/-- One bit of `w`. -/
def bitField (w lo : Nat) : Bool := w / 2 ^ lo % 2 == 1

/-! ## The 5-bit immediate field (R100) -/

/-- How many extension bytes the immediate field `f` takes (R100). -/
def extLen (f : Nat) : Nat :=
  if f < 8 then 0 else if f < 12 then f - 7 else if f < 16 then 0 else 1

/-- The five bits of an immediate field. -/
def Imm5.field : Imm5 → Nat
  | .short v => v.toNat
  | .neg v => 12 + v.toNat
  | .data1 _ => 8
  | .data2 _ => 9
  | .data3 _ => 10
  | .data4 _ => 11
  | .wide v => 16 + v.toNat / 256

/-- The extension bytes of an immediate field, in address order. -/
def Imm5.ext : Imm5 → List Byte
  | .short _ => []
  | .neg _ => []
  | .data1 v => leBytes 1 v.toNat
  | .data2 v => leBytes 2 v.toNat
  | .data3 v => leBytes 3 v.toNat
  | .data4 v => leBytes 4 v.toNat
  | .wide v => leBytes 1 v.toNat

/-- The number of extension bytes of an immediate. -/
def Imm5.extLen (n : Imm5) : Nat := Sys2Proof.extLen n.field

/-- The first `k` bytes as a number, if there are that many. -/
def takeLE (k : Nat) (ext : List Byte) : Option Nat :=
  if ext.length < k then none else some (leNat (ext.take k))

/-- Read an immediate from its field and the bytes that follow; none if bytes are missing (R100). -/
def decodeImm (f : Nat) (ext : List Byte) : Option Imm5 :=
  if f < 8 then some (.short (BitVec.ofNat 3 f))
  else if f = 8 then (takeLE 1 ext).map fun v => .data1 (BitVec.ofNat 8 v)
  else if f = 9 then (takeLE 2 ext).map fun v => .data2 (BitVec.ofNat 16 v)
  else if f = 10 then (takeLE 3 ext).map fun v => .data3 (BitVec.ofNat 24 v)
  else if f = 11 then (takeLE 4 ext).map fun v => .data4 (BitVec.ofNat 32 v)
  else if f < 16 then some (.neg (BitVec.ofNat 2 (f - 12)))
  else (takeLE 1 ext).map fun v => .wide (BitVec.ofNat 12 ((f - 16) * 256 + v))

/-! ## Lengths and formats -/

/-- The base length in bytes, from the opcode byte (R90). -/
def baseLen (op : Nat) : Nat :=
  if op < 4 then 1 else if op < 64 then 3 else if op < 128 then 4 else if op < 192 then 5 else 6

/-- The instruction formats an opcode can have (R93 to R98); `drsn`, `dbjn24`, `drstn` and `mem32` stand for the two
forms that bit 13 (`i`) tells apart. `raw16` and `raw24` are formats no field of which is interpreted. -/
inductive Format where
  | n8 | n24 | n32 | bb | dcn24 | dcn32 | dan8 | dan16 | dan24 | dan32
  | raw16 | raw24 | dbjn24 | mem32 | store32 | drsn | loop | dn | ds | drstn
  deriving DecidableEq, Repr

/-- The opcode map (R109, R110, R111): the format of an opcode byte, none where no instruction is assigned. -/
def formatOf : Nat → Option Format
  | 0x00 | 0x01 | 0x02 | 0x03 => some .n8
  | 0x04 | 0x05 => some .n24
  | 0x06 => some .bb
  | 0x07 => some .dcn24
  | 0x08 => some .dan8
  | 0x0A | 0x0B => some .raw16
  | 0x0C | 0x0D | 0x0E | 0x0F | 0x10 | 0x11 | 0x12 | 0x13 | 0x14 | 0x15 | 0x16 | 0x17 | 0x18 | 0x19
  | 0x1A | 0x1B | 0x1C | 0x1D | 0x1E | 0x1F | 0x36 => some .dbjn24
  | 0x20 | 0x21 | 0x22 | 0x23 | 0x24 | 0x25 | 0x26 | 0x27 | 0x28 | 0x29 | 0x2A | 0x2B | 0x2C | 0x2D
  | 0x2E | 0x2F | 0x34 | 0x35 => some .drsn
  | 0x32 => some .dn
  | 0x33 => some .loop
  | 0x37 => some .ds
  | 0x44 | 0x45 => some .n32
  | 0x47 => some .dcn32
  | 0x48 => some .dan16
  | 0x4C | 0x4D | 0x4E | 0x4F => some .store32
  | 0x50 | 0x51 | 0x52 | 0x53 | 0x54 | 0x55 | 0x56 | 0x57 | 0x58 | 0x59 | 0x5A | 0x5B | 0x5C | 0x5D
  | 0x5E | 0x5F | 0x64 | 0x65 | 0x66 | 0x67 | 0x76 => some .mem32
  | 0x60 | 0x61 | 0x62 | 0x63 | 0x68 | 0x69 | 0x6A | 0x6B | 0x6C | 0x6D | 0x6E | 0x6F | 0x70 | 0x71
  | 0x72 => some .drstn
  | 0x73 | 0x74 | 0x75 | 0x77 | 0x7A | 0x7B | 0x7C | 0x7D | 0x7E | 0x7F => some .raw24
  | 0x88 => some .dan24
  | 0xC8 => some .dan32
  | _ => none

/-- How many extension bytes follow the base `w` of an instruction with opcode `op` (R92 step 4, R99). An opcode that is
unassigned or refused as a whole takes none: it is turned away at the opcode lookup (60_exceptions.md R373 step 2). -/
def extCount (op w : Nat) : Nat :=
  match formatOf op with
  | some .bb => extLen (field5 w 19)
  | some .drsn | some .dbjn24 | some .drstn | some .mem32 => if bitField w 13 then extLen (field5 w 19) else 0
  | some .store32 =>
    (if bitField w 13 then extLen (field5 w 19) else 0) + (if bitField w 24 then extLen (field5 w 8) else 0)
  | _ => 0

/-! ## The opcode tables: which instruction an opcode of each format is (R109, R110, R111) -/

/-- One-byte opcodes (R94). -/
def opN8 : Nat → Option (Instr)
  | 0x00 => some .trap
  | 0x01 => some .brk
  | 0x02 => some .nxth
  | 0x03 => some .nxtw
  | _ => none

/-- Opcodes of fmt24n and fmt32n, by their low six bits. -/
def opDisp : Nat → Option (Disp → Instr)
  | 0x04 => some .br
  | 0x05 => some .callr
  | _ => none

/-- 24-bit opcodes refused as a whole. -/
def opRaw16 : Nat → Option (BitVec 16 → Instr)
  | 0x0A => some .enter
  | 0x0B => some .exit
  | _ => none

/-- 32-bit opcodes refused as a whole. -/
def opRaw24 : Nat → Option (BitVec 24 → Instr)
  | 0x73 => some .intp
  | 0x74 => some .lut
  | 0x75 => some .cmov
  | 0x77 => some .container32
  | 0x7A => some .mmov
  | 0x7B => some .pcnd
  | 0x7C => some .pcb1
  | 0x7D => some .stm
  | 0x7E => some .ldm
  | 0x7F => some .tt
  | _ => none

/-- Opcodes of fmt24drsi with `i = 0`. -/
def opDrs : Nat → Option (RegNum → RegNum → RegNum → Instr)
  | 0x20 => some .add
  | 0x21 => some .sub
  | 0x22 => some .mul
  | 0x23 => some .div
  | 0x24 => some .addnu
  | 0x25 => some .subnu
  | 0x26 => some .mulnu
  | 0x27 => some .divnu
  | 0x28 => some .and
  | 0x29 => some .or
  | 0x2A => some .xor
  | 0x2B => some .cmp
  | 0x2C => some .extrct
  | 0x2D => some .lsr
  | 0x2E => some .asr
  | 0x2F => some .ror
  | 0x34 => some .max
  | 0x35 => some .min
  | _ => none

/-- Opcodes of fmt24drsi with `i = 1`. -/
def opDrn : Nat → Option (RegNum → RegNum → Imm5 → Instr)
  | 0x20 => some .addi
  | 0x21 => some .subi
  | 0x22 => some .muli
  | 0x23 => some .divi
  | 0x24 => some .addnui
  | 0x25 => some .subnui
  | 0x26 => some .mulnui
  | 0x27 => some .divnui
  | 0x28 => some .andi
  | 0x29 => some .ori
  | 0x2A => some .xori
  | 0x2B => some .cmpi
  | 0x2C => some .extrcti
  | 0x2D => some .lsri
  | 0x2E => some .asri
  | 0x2F => some .rori
  | 0x34 => some .maxi
  | 0x35 => some .mini
  | _ => none

/-- Opcodes of the 24-bit memory formats with `i = 0`. -/
def opDbj : Nat → Option (RegNum → RegNum → RegNum → Instr)
  | 0x0C => some .st8Dbj
  | 0x0D => some .st16Dbj
  | 0x0E => some .st24Dbj
  | 0x0F => some .st32Dbj
  | 0x10 => some .ldu8Dbj
  | 0x11 => some .ldu16Dbj
  | 0x12 => some .ldu24Dbj
  | 0x13 => some .ldu32Dbj
  | 0x14 => some .ld8Dbj
  | 0x15 => some .ld16Dbj
  | 0x16 => some .ld24Dbj
  | 0x17 => some .ld32Dbj
  | 0x18 => some .fld8Dbj
  | 0x19 => some .fld16Dbj
  | 0x1A => some .fld24Dbj
  | 0x1B => some .fld32Dbj
  | 0x1C => some .pld8Dbj
  | 0x1D => some .pld16Dbj
  | 0x1E => some .pld24Dbj
  | 0x1F => some .pld32Dbj
  | 0x36 => some .callDbj
  | _ => none

/-- Opcodes of the 24-bit memory formats with `i = 1`. -/
def opDbn : Nat → Option (RegNum → RegNum → Imm5 → Instr)
  | 0x0C => some .st8Dbn
  | 0x0D => some .st16Dbn
  | 0x0E => some .st24Dbn
  | 0x0F => some .st32Dbn
  | 0x10 => some .ldu8Dbn
  | 0x11 => some .ldu16Dbn
  | 0x12 => some .ldu24Dbn
  | 0x13 => some .ldu32Dbn
  | 0x14 => some .ld8Dbn
  | 0x15 => some .ld16Dbn
  | 0x16 => some .ld24Dbn
  | 0x17 => some .ld32Dbn
  | 0x18 => some .fld8Dbn
  | 0x19 => some .fld16Dbn
  | 0x1A => some .fld24Dbn
  | 0x1B => some .fld32Dbn
  | 0x1C => some .pld8Dbn
  | 0x1D => some .pld16Dbn
  | 0x1E => some .pld24Dbn
  | 0x1F => some .pld32Dbn
  | 0x36 => some .callDbn
  | _ => none

/-- Opcodes of the 32-bit load, LEA and CALL formats with `i = 0`. -/
def opDbjs : Nat → Option (RegNum → RegNum → RegNum → RegNum → BitVec 2 → Bool → Instr)
  | 0x50 => some .ldu8Dbjs
  | 0x51 => some .ldu16Dbjs
  | 0x52 => some .ldu24Dbjs
  | 0x53 => some .ldu32Dbjs
  | 0x54 => some .ld8Dbjs
  | 0x55 => some .ld16Dbjs
  | 0x56 => some .ld24Dbjs
  | 0x57 => some .ld32Dbjs
  | 0x58 => some .fld8Dbjs
  | 0x59 => some .fld16Dbjs
  | 0x5A => some .fld24Dbjs
  | 0x5B => some .fld32Dbjs
  | 0x5C => some .pld8Dbjs
  | 0x5D => some .pld16Dbjs
  | 0x5E => some .pld24Dbjs
  | 0x5F => some .pld32Dbjs
  | 0x64 => some .lea8Dbjs
  | 0x65 => some .lea16Dbjs
  | 0x66 => some .lea24Dbjs
  | 0x67 => some .lea32Dbjs
  | 0x76 => some .callDbjs
  | _ => none

/-- Opcodes of the 32-bit load, LEA and CALL formats with `i = 1`. -/
def opDbjn : Nat → Option (RegNum → RegNum → RegNum → Imm5 → BitVec 2 → Bool → Instr)
  | 0x50 => some .ldu8Dbjn
  | 0x51 => some .ldu16Dbjn
  | 0x52 => some .ldu24Dbjn
  | 0x53 => some .ldu32Dbjn
  | 0x54 => some .ld8Dbjn
  | 0x55 => some .ld16Dbjn
  | 0x56 => some .ld24Dbjn
  | 0x57 => some .ld32Dbjn
  | 0x58 => some .fld8Dbjn
  | 0x59 => some .fld16Dbjn
  | 0x5A => some .fld24Dbjn
  | 0x5B => some .fld32Dbjn
  | 0x5C => some .pld8Dbjn
  | 0x5D => some .pld16Dbjn
  | 0x5E => some .pld24Dbjn
  | 0x5F => some .pld32Dbjn
  | 0x64 => some .lea8Dbjn
  | 0x65 => some .lea16Dbjn
  | 0x66 => some .lea24Dbjn
  | 0x67 => some .lea32Dbjn
  | 0x76 => some .callDbjn
  | _ => none

/-- 32-bit register stores with `i = 0`. -/
def opSdbjs : Nat → Option (RegNum → RegNum → RegNum → RegNum → BitVec 2 → Instr)
  | 0x4C => some .st8Dbjs
  | 0x4D => some .st16Dbjs
  | 0x4E => some .st24Dbjs
  | 0x4F => some .st32Dbjs
  | _ => none

/-- 32-bit register stores with `i = 1`. -/
def opSdbjn : Nat → Option (RegNum → RegNum → RegNum → Imm5 → BitVec 2 → Instr)
  | 0x4C => some .st8Dbjn
  | 0x4D => some .st16Dbjn
  | 0x4E => some .st24Dbjn
  | 0x4F => some .st32Dbjn
  | _ => none

/-- Store immediates with `i = 0`. -/
def opMbjs : Nat → Option (Imm5 → RegNum → RegNum → RegNum → BitVec 2 → Instr)
  | 0x4C => some .st8Mbjs
  | 0x4D => some .st16Mbjs
  | 0x4E => some .st24Mbjs
  | 0x4F => some .st32Mbjs
  | _ => none

/-- Store immediates with `i = 1`. -/
def opMbjn : Nat → Option (Imm5 → RegNum → RegNum → Imm5 → BitVec 2 → Instr)
  | 0x4C => some .st8Mbjn
  | 0x4D => some .st16Mbjn
  | 0x4E => some .st24Mbjn
  | 0x4F => some .st32Mbjn
  | _ => none

/-- Opcodes of fmt32drst. -/
def opDrst : Nat → Option (RegNum → RegNum → RegNum → RegNum → BitVec 2 → Bool → Instr)
  | 0x60 => some .add3
  | 0x61 => some .sub3
  | 0x62 => some .mac
  | 0x63 => some .ddiv
  | 0x68 => some .and3
  | 0x69 => some .or3
  | 0x6A => some .xor3
  | 0x6B => some .insrt
  | 0x6C => some .extrctD
  | 0x6D => some .shr
  | 0x6E => some .asrD
  | 0x6F => some .rorD
  | 0x70 => some .max3
  | 0x71 => some .min3
  | 0x72 => some .median3
  | _ => none

/-- Opcodes of fmt32drnt. -/
def opDrnt : Nat → Option (RegNum → RegNum → Imm5 → RegNum → BitVec 2 → Bool → Instr)
  | 0x60 => some .add3i
  | 0x61 => some .sub3i
  | 0x62 => some .maci
  | 0x63 => some .ddivi
  | 0x68 => some .and3i
  | 0x69 => some .or3i
  | 0x6A => some .xor3i
  | 0x6B => some .insrti
  | 0x6C => some .extrctiD
  | 0x6D => some .shri
  | 0x6E => some .asriD
  | 0x6F => some .roriD
  | 0x70 => some .max3i
  | 0x71 => some .min3i
  | 0x72 => some .median3I
  | _ => none

/-- The conditional branch with condition field `c` (45_control.md R268), 24-bit form. -/
def br24Of (c : Nat) : RegNum → BitVec 8 → Instr :=
  match c with
  | 0 => .brz24
  | 1 => .brgz24
  | 2 => .brgez24
  | 3 => .brev24
  | 4 => .brnz24
  | 5 => .brlez24
  | 6 => .brlz24
  | _ => .brod24

/-- The conditional branch with condition field `c` (45_control.md R268), 32-bit form. -/
def br32Of (c : Nat) : RegNum → BitVec 16 → Instr :=
  match c with
  | 0 => .brz32
  | 1 => .brgz32
  | 2 => .brgez32
  | 3 => .brev32
  | 4 => .brnz32
  | 5 => .brlez32
  | 6 => .brlz32
  | _ => .brod32

/-- The instruction of a single operand mnemonic (47_single_operand.md R310). -/
def singleInstr : SingleOp → RegNum → RegNum → Bool → Instr
  | .inp => .inp
  | .out => .out
  | .mov => .mov
  | .not => .not
  | .neg => .neg
  | .inc => .inc
  | .dec => .dec
  | .abs => .abs
  | .nabs => .nabs
  | .ldzcnt => .ldzcnt
  | .ld1cnt => .ld1cnt
  | .trzcnt => .trzcnt
  | .tr1cnt => .tr1cnt
  | .popcnt => .popcnt
  | .sqrt => .sqrt
  | .sinpi => .sinpi
  | .cospi => .cospi
  | .tanpi => .tanpi
  | .asinpi => .asinpi
  | .acospi => .acospi
  | .atanpi => .atanpi
  | .int => .int
  | .flt => .flt
  | .expon => .expon
  | .fract => .fract
  | .fsqrt => .fsqrt
  | .frsqrt => .frsqrt
  | .frcp => .frcp
  | .ln2p1 => .ln2p1
  | .ln2 => .ln2
  | .exp2m1 => .exp2m1
  | .exp2 => .exp2
  | .rnd => .rnd
  | .rndtev => .rndtev
  | .rndtod => .rndtod
  | .rndtz => .rndtz
  | .rndfz => .rndfz
  | .ceil => .ceil
  | .floor => .floor

/-- The numbering of the `aa` field (10_state.md R24). -/
def TyCode.ofField (a : Nat) : TyCode :=
  match a with
  | 0 => .u
  | 1 => .s
  | 2 => .f
  | _ => .p

/-- The `aa` field of a type code. -/
def TyCode.toField : TyCode → Nat
  | .u => 0
  | .s => 1
  | .f => 2
  | .p => 3

/-! ## The decoder (R92) -/

/-- Why bytes are not an instruction. -/
inductive DecodeError where
  /-- fewer bytes than the instruction has; a fetch never hands over such a list -/
  | truncated
  /-- no instruction is assigned to the opcode (R112) -/
  | unassignedOpcode (op : Nat)
  /-- an LDI with its `x` bit set (R112) -/
  | ldiXBit (op : Nat)
  /-- a sub-opcode outside `subop24` (R113, 47_single_operand.md R312) -/
  | unassignedSubOpcode (k : Nat)
  deriving DecidableEq, Repr

/-- The instruction if there is one, else an unassigned opcode. -/
def orUnassigned (op : Nat) : Option Instr → Except DecodeError Instr
  | some i => .ok i
  | none => .error (.unassignedOpcode op)

/-- Go on with an immediate if its bytes are all there. -/
def withImm (n : Option Imm5) (k : Imm5 → Except DecodeError Instr) : Except DecodeError Instr :=
  match n with
  | some n => k n
  | none => .error .truncated

/-- An LDI: its `x` bit must be 0 (R112). -/
def ldiOf (op w : Nat) (i : RegNum → TyCode → Instr) : Except DecodeError Instr :=
  if bitField w 13 then .error (.ldiXBit op) else .ok (i (regField w 8) (TyCode.ofField (w / 2 ^ 14 % 4)))

/-- Read the base `w` with opcode `op` and the bytes after it (R92 steps 2 to 6). -/
def decodeWord (op w : Nat) (ext : List Byte) : Except DecodeError Instr :=
  match formatOf op with
  | none => .error (.unassignedOpcode op)
  | some .n8 => orUnassigned op (opN8 op)
  | some .n24 => orUnassigned op ((opDisp (op % 64)).map fun c => c (.d16 (BitVec.ofNat 16 (w / 2 ^ 8))))
  | some .n32 => orUnassigned op ((opDisp (op % 64)).map fun c => c (.d24 (BitVec.ofNat 24 (w / 2 ^ 8))))
  | some .raw16 => orUnassigned op ((opRaw16 op).map fun c => c (BitVec.ofNat 16 (w / 2 ^ 8)))
  | some .raw24 => orUnassigned op ((opRaw24 op).map fun c => c (BitVec.ofNat 24 (w / 2 ^ 8)))
  | some .bb =>
    withImm (decodeImm (field5 w 19) ext) fun n =>
      .ok (if bitField w 13 then .bbs (regField w 8) (regField w 14) n else .bbc (regField w 8) (regField w 14) n)
  | some .dcn24 => .ok (br24Of (w / 2 ^ 13 % 8) (regField w 8) (BitVec.ofNat 8 (w / 2 ^ 16)))
  | some .dcn32 => .ok (br32Of (w / 2 ^ 13 % 8) (regField w 8) (BitVec.ofNat 16 (w / 2 ^ 16)))
  | some .dan8 => ldiOf op w fun d a => .ldi8 d a (BitVec.ofNat 8 (w / 2 ^ 16))
  | some .dan16 => ldiOf op w fun d a => .ldi16 d a (BitVec.ofNat 16 (w / 2 ^ 16))
  | some .dan24 => ldiOf op w fun d a => .ldi24 d a (BitVec.ofNat 24 (w / 2 ^ 16))
  | some .dan32 => ldiOf op w fun d a => .ldi32 d a (BitVec.ofNat 32 (w / 2 ^ 16))
  | some .drsn =>
    if bitField w 13 then
      withImm (decodeImm (field5 w 19) ext) fun n =>
        orUnassigned op ((opDrn op).map fun c => c (regField w 8) (regField w 14) n)
    else orUnassigned op ((opDrs op).map fun c => c (regField w 8) (regField w 14) (regField w 19))
  | some .loop =>
    .ok (if bitField w 13 then .loopi (regField w 8) (regField w 14) (BitVec.ofNat 5 (w / 2 ^ 19))
      else .loop (regField w 8) (regField w 14) (regField w 19))
  | some .dn => .ok (.vect (regField w 8) (BitVec.ofNat 11 (w / 2 ^ 13)))
  | some .dbjn24 =>
    if bitField w 13 then
      withImm (decodeImm (field5 w 19) ext) fun n =>
        orUnassigned op ((opDbn op).map fun c => c (regField w 8) (regField w 14) n)
    else orUnassigned op ((opDbj op).map fun c => c (regField w 8) (regField w 14) (regField w 19))
  | some .ds =>
    match subop24 (regField w 14) with
    | some m => .ok (singleInstr m (regField w 8) (regField w 19) (bitField w 13))
    | none => .error (.unassignedSubOpcode (regField w 14).val)
  | some .drstn =>
    if bitField w 13 then
      withImm (decodeImm (field5 w 19) ext) fun n =>
        orUnassigned op ((opDrnt op).map fun c =>
          c (regField w 8) (regField w 14) n (regField w 27) (BitVec.ofNat 2 (w / 2 ^ 25)) (bitField w 24))
    else
      orUnassigned op ((opDrst op).map fun c =>
        c (regField w 8) (regField w 14) (regField w 19) (regField w 27) (BitVec.ofNat 2 (w / 2 ^ 25)) (bitField w 24))
  | some .mem32 =>
    if bitField w 13 then
      withImm (decodeImm (field5 w 19) ext) fun n =>
        orUnassigned op ((opDbjn op).map fun c =>
          c (regField w 8) (regField w 14) (regField w 27) n (BitVec.ofNat 2 (w / 2 ^ 25)) (bitField w 24))
    else
      orUnassigned op ((opDbjs op).map fun c =>
        c (regField w 8) (regField w 14) (regField w 27) (regField w 19) (BitVec.ofNat 2 (w / 2 ^ 25)) (bitField w 24))
  | some .store32 =>
    if bitField w 24 then
      if bitField w 13 then
        withImm (decodeImm (field5 w 19) ext) fun n =>
          withImm (decodeImm (field5 w 8) (ext.drop n.extLen)) fun m =>
            orUnassigned op ((opMbjn op).map fun c =>
              c m (regField w 14) (regField w 27) n (BitVec.ofNat 2 (w / 2 ^ 25)))
      else
        withImm (decodeImm (field5 w 8) ext) fun m =>
          orUnassigned op ((opMbjs op).map fun c =>
            c m (regField w 14) (regField w 27) (regField w 19) (BitVec.ofNat 2 (w / 2 ^ 25)))
    else if bitField w 13 then
      withImm (decodeImm (field5 w 19) ext) fun n =>
        orUnassigned op ((opSdbjn op).map fun c =>
          c (regField w 8) (regField w 14) (regField w 27) n (BitVec.ofNat 2 (w / 2 ^ 25)))
    else
      orUnassigned op ((opSdbjs op).map fun c =>
        c (regField w 8) (regField w 14) (regField w 27) (regField w 19) (BitVec.ofNat 2 (w / 2 ^ 25)))

/-- The decoder: total on any bytes; bytes after the instruction are not looked at. -/
def decode (bytes : List Byte) : Except DecodeError Instr :=
  match bytes with
  | [] => .error .truncated
  | b :: _ =>
    if bytes.length < baseLen b.toNat then .error .truncated
    else decodeWord b.toNat (leNat (bytes.take (baseLen b.toNat))) (bytes.drop (baseLen b.toNat))

/-! ## The encoder -/

/-- A base of the 24-bit layout `sssss rrrrr i ddddd op` (R95). -/
def word24 (s r i d op : Nat) : Nat := s * 2 ^ 19 + r * 2 ^ 14 + i * 2 ^ 13 + d * 2 ^ 8 + op

/-- A base of the 32-bit layout `ttttt zz u sssss rrrrr i ddddd op` (R97). -/
def word32 (t zz u s r i d op : Nat) : Nat := t * 2 ^ 27 + zz * 2 ^ 25 + u * 2 ^ 24 + word24 s r i d op

/-- fmt24drs (R95); also fmt24dbj with the index in the `s` place. -/
def encDrs (op : Nat) (d r rs : RegNum) : List Byte := leBytes 3 (word24 rs r 0 d op)

/-- fmt24drn, fmt24dbn (R95) and BBS, BBC, whose bit 13 is `i` (45_control.md R266). -/
def encDrn (op i : Nat) (d r : RegNum) (n : Imm5) : List Byte := leBytes 3 (word24 n.field r i d op) ++ n.ext

/-- fmt24dcn (R95). -/
def encDcn24 (op c : Nat) (d : RegNum) (n : BitVec 8) : List Byte :=
  leBytes 3 (n.toNat * 2 ^ 16 + c * 2 ^ 13 + d * 2 ^ 8 + op)

/-- fmt32dcn (R97). -/
def encDcn32 (op c : Nat) (d : RegNum) (n : BitVec 16) : List Byte :=
  leBytes 4 (n.toNat * 2 ^ 16 + c * 2 ^ 13 + d * 2 ^ 8 + op)

/-- The LDI formats fmt24dan, fmt32dan, fmt40dan, fmt48dan: `k` bytes in all (R95, R97, R98). -/
def encDan (k op : Nat) (d : RegNum) (a : TyCode) (n : Nat) : List Byte :=
  leBytes k (n * 2 ^ 16 + a.toField * 2 ^ 14 + d * 2 ^ 8 + op)

/-- fmt32drst (R97), and fmt32dbjs with the index in the `t` place and `yy` in the `zz` place. -/
def encDrst (op : Nat) (d r rs rt : RegNum) (zz : BitVec 2) (u : Bool) : List Byte :=
  leBytes 4 (word32 rt zz.toNat u.toNat rs r 0 d op)

/-- fmt32drnt (R97), and fmt32dbjn with the index in the `t` place and `yy` in the `zz` place. -/
def encDrnt (op : Nat) (d r : RegNum) (n : Imm5) (rt : RegNum) (zz : BitVec 2) (u : Bool) : List Byte :=
  leBytes 4 (word32 rt zz.toNat u.toNat n.field r 1 d op) ++ n.ext

/-- fmt32mbjs (R97): `m` in bits 12:8, `u = 1`. -/
def encMbjs (op : Nat) (m : Imm5) (b j rs : RegNum) (y : BitVec 2) : List Byte :=
  leBytes 4 (word32 j y.toNat 1 rs b 0 m.field op) ++ m.ext

/-- fmt32mbjn (R97): two immediates, the bytes of `n` first (R117). -/
def encMbjn (op : Nat) (m : Imm5) (b j : RegNum) (n : Imm5) (y : BitVec 2) : List Byte :=
  leBytes 4 (word32 j y.toNat 1 n.field b 1 m.field op) ++ n.ext ++ m.ext

/-- fmt24ds (47_single_operand.md R310): the sub-opcode is the one `subop24` gives the mnemonic. -/
def encDs (m : SingleOp) (d rs : RegNum) (z : Bool) : List Byte :=
  match Config.subopCode m with
  | some k => leBytes 3 (word24 rs k z.toNat d 0x37)
  | none => []

/-- fmt24n and fmt32n (R95, R97): `op` is the opcode without its length bits. -/
def encDisp (op : Nat) : Disp → List Byte
  | .d16 v => leBytes 3 (v.toNat * 2 ^ 8 + op)
  | .d24 v => leBytes 4 (v.toNat * 2 ^ 8 + 0x40 + op)

/-- The bytes of an instruction; none for one without an encoding. -/
def encode : Instr → List Byte
  | .br n => encDisp 0x04 n
  | .callr n => encDisp 0x05 n
  | .bbs d r n => encDrn 0x06 1 d r n
  | .bbc d r n => encDrn 0x06 0 d r n
  | .brz24 d n => encDcn24 0x07 0 d n
  | .brgz24 d n => encDcn24 0x07 1 d n
  | .brgez24 d n => encDcn24 0x07 2 d n
  | .brev24 d n => encDcn24 0x07 3 d n
  | .brnz24 d n => encDcn24 0x07 4 d n
  | .brlez24 d n => encDcn24 0x07 5 d n
  | .brlz24 d n => encDcn24 0x07 6 d n
  | .brod24 d n => encDcn24 0x07 7 d n
  | .brz32 d n => encDcn32 0x47 0 d n
  | .brgz32 d n => encDcn32 0x47 1 d n
  | .brgez32 d n => encDcn32 0x47 2 d n
  | .brev32 d n => encDcn32 0x47 3 d n
  | .brnz32 d n => encDcn32 0x47 4 d n
  | .brlez32 d n => encDcn32 0x47 5 d n
  | .brlz32 d n => encDcn32 0x47 6 d n
  | .brod32 d n => encDcn32 0x47 7 d n
  | .ldi8 d a n => encDan 3 0x08 d a n.toNat
  | .ldi16 d a n => encDan 4 0x48 d a n.toNat
  | .ldi24 d a n => encDan 5 0x88 d a n.toNat
  | .ldi32 d a n => encDan 6 0xC8 d a n.toNat
  | .enter f => leBytes 3 (f.toNat * 2 ^ 8 + 0x0A)
  | .exit f => leBytes 3 (f.toNat * 2 ^ 8 + 0x0B)
  | .st8Dbj d b j => encDrs 0x0C d b j
  | .st8Dbn d b n => encDrn 0x0C 1 d b n
  | .st8Dbjs d b j rs y => encDrst 0x4C d b rs j y false
  | .st8Dbjn d b j n y => encDrnt 0x4C d b n j y false
  | .st8Mbjs m b j rs y => encMbjs 0x4C m b j rs y
  | .st8Mbjn m b j n y => encMbjn 0x4C m b j n y
  | .st16Dbj d b j => encDrs 0x0D d b j
  | .st16Dbn d b n => encDrn 0x0D 1 d b n
  | .st16Dbjs d b j rs y => encDrst 0x4D d b rs j y false
  | .st16Dbjn d b j n y => encDrnt 0x4D d b n j y false
  | .st16Mbjs m b j rs y => encMbjs 0x4D m b j rs y
  | .st16Mbjn m b j n y => encMbjn 0x4D m b j n y
  | .st24Dbj d b j => encDrs 0x0E d b j
  | .st24Dbn d b n => encDrn 0x0E 1 d b n
  | .st24Dbjs d b j rs y => encDrst 0x4E d b rs j y false
  | .st24Dbjn d b j n y => encDrnt 0x4E d b n j y false
  | .st24Mbjs m b j rs y => encMbjs 0x4E m b j rs y
  | .st24Mbjn m b j n y => encMbjn 0x4E m b j n y
  | .st32Dbj d b j => encDrs 0x0F d b j
  | .st32Dbn d b n => encDrn 0x0F 1 d b n
  | .st32Dbjs d b j rs y => encDrst 0x4F d b rs j y false
  | .st32Dbjn d b j n y => encDrnt 0x4F d b n j y false
  | .st32Mbjs m b j rs y => encMbjs 0x4F m b j rs y
  | .st32Mbjn m b j n y => encMbjn 0x4F m b j n y
  | .ldu8Dbj d b j => encDrs 0x10 d b j
  | .ldu8Dbn d b n => encDrn 0x10 1 d b n
  | .ldu8Dbjs d b j rs y u => encDrst 0x50 d b rs j y u
  | .ldu8Dbjn d b j n y u => encDrnt 0x50 d b n j y u
  | .ldu16Dbj d b j => encDrs 0x11 d b j
  | .ldu16Dbn d b n => encDrn 0x11 1 d b n
  | .ldu16Dbjs d b j rs y u => encDrst 0x51 d b rs j y u
  | .ldu16Dbjn d b j n y u => encDrnt 0x51 d b n j y u
  | .ldu24Dbj d b j => encDrs 0x12 d b j
  | .ldu24Dbn d b n => encDrn 0x12 1 d b n
  | .ldu24Dbjs d b j rs y u => encDrst 0x52 d b rs j y u
  | .ldu24Dbjn d b j n y u => encDrnt 0x52 d b n j y u
  | .ldu32Dbj d b j => encDrs 0x13 d b j
  | .ldu32Dbn d b n => encDrn 0x13 1 d b n
  | .ldu32Dbjs d b j rs y u => encDrst 0x53 d b rs j y u
  | .ldu32Dbjn d b j n y u => encDrnt 0x53 d b n j y u
  | .ld8Dbj d b j => encDrs 0x14 d b j
  | .ld8Dbn d b n => encDrn 0x14 1 d b n
  | .ld8Dbjs d b j rs y u => encDrst 0x54 d b rs j y u
  | .ld8Dbjn d b j n y u => encDrnt 0x54 d b n j y u
  | .ld16Dbj d b j => encDrs 0x15 d b j
  | .ld16Dbn d b n => encDrn 0x15 1 d b n
  | .ld16Dbjs d b j rs y u => encDrst 0x55 d b rs j y u
  | .ld16Dbjn d b j n y u => encDrnt 0x55 d b n j y u
  | .ld24Dbj d b j => encDrs 0x16 d b j
  | .ld24Dbn d b n => encDrn 0x16 1 d b n
  | .ld24Dbjs d b j rs y u => encDrst 0x56 d b rs j y u
  | .ld24Dbjn d b j n y u => encDrnt 0x56 d b n j y u
  | .ld32Dbj d b j => encDrs 0x17 d b j
  | .ld32Dbn d b n => encDrn 0x17 1 d b n
  | .ld32Dbjs d b j rs y u => encDrst 0x57 d b rs j y u
  | .ld32Dbjn d b j n y u => encDrnt 0x57 d b n j y u
  | .fld8Dbj d b j => encDrs 0x18 d b j
  | .fld8Dbn d b n => encDrn 0x18 1 d b n
  | .fld8Dbjs d b j rs y u => encDrst 0x58 d b rs j y u
  | .fld8Dbjn d b j n y u => encDrnt 0x58 d b n j y u
  | .fld16Dbj d b j => encDrs 0x19 d b j
  | .fld16Dbn d b n => encDrn 0x19 1 d b n
  | .fld16Dbjs d b j rs y u => encDrst 0x59 d b rs j y u
  | .fld16Dbjn d b j n y u => encDrnt 0x59 d b n j y u
  | .fld24Dbj d b j => encDrs 0x1A d b j
  | .fld24Dbn d b n => encDrn 0x1A 1 d b n
  | .fld24Dbjs d b j rs y u => encDrst 0x5A d b rs j y u
  | .fld24Dbjn d b j n y u => encDrnt 0x5A d b n j y u
  | .fld32Dbj d b j => encDrs 0x1B d b j
  | .fld32Dbn d b n => encDrn 0x1B 1 d b n
  | .fld32Dbjs d b j rs y u => encDrst 0x5B d b rs j y u
  | .fld32Dbjn d b j n y u => encDrnt 0x5B d b n j y u
  | .pld8Dbj d b j => encDrs 0x1C d b j
  | .pld8Dbn d b n => encDrn 0x1C 1 d b n
  | .pld8Dbjs d b j rs y u => encDrst 0x5C d b rs j y u
  | .pld8Dbjn d b j n y u => encDrnt 0x5C d b n j y u
  | .pld16Dbj d b j => encDrs 0x1D d b j
  | .pld16Dbn d b n => encDrn 0x1D 1 d b n
  | .pld16Dbjs d b j rs y u => encDrst 0x5D d b rs j y u
  | .pld16Dbjn d b j n y u => encDrnt 0x5D d b n j y u
  | .pld24Dbj d b j => encDrs 0x1E d b j
  | .pld24Dbn d b n => encDrn 0x1E 1 d b n
  | .pld24Dbjs d b j rs y u => encDrst 0x5E d b rs j y u
  | .pld24Dbjn d b j n y u => encDrnt 0x5E d b n j y u
  | .pld32Dbj d b j => encDrs 0x1F d b j
  | .pld32Dbn d b n => encDrn 0x1F 1 d b n
  | .pld32Dbjs d b j rs y u => encDrst 0x5F d b rs j y u
  | .pld32Dbjn d b j n y u => encDrnt 0x5F d b n j y u
  | .lea8Dbjs d b j rs y u => encDrst 0x64 d b rs j y u
  | .lea8Dbjn d b j n y u => encDrnt 0x64 d b n j y u
  | .lea16Dbjs d b j rs y u => encDrst 0x65 d b rs j y u
  | .lea16Dbjn d b j n y u => encDrnt 0x65 d b n j y u
  | .lea24Dbjs d b j rs y u => encDrst 0x66 d b rs j y u
  | .lea24Dbjn d b j n y u => encDrnt 0x66 d b n j y u
  | .lea32Dbjs d b j rs y u => encDrst 0x67 d b rs j y u
  | .lea32Dbjn d b j n y u => encDrnt 0x67 d b n j y u
  | .callDbj d b j => encDrs 0x36 d b j
  | .callDbn d b n => encDrn 0x36 1 d b n
  | .callDbjs d b j rs y u => encDrst 0x76 d b rs j y u
  | .callDbjn d b j n y u => encDrnt 0x76 d b n j y u
  | .add d r rs => encDrs 0x20 d r rs
  | .addi d r n => encDrn 0x20 1 d r n
  | .sub d r rs => encDrs 0x21 d r rs
  | .subi d r n => encDrn 0x21 1 d r n
  | .mul d r rs => encDrs 0x22 d r rs
  | .muli d r n => encDrn 0x22 1 d r n
  | .div d r rs => encDrs 0x23 d r rs
  | .divi d r n => encDrn 0x23 1 d r n
  | .addnu d r rs => encDrs 0x24 d r rs
  | .addnui d r n => encDrn 0x24 1 d r n
  | .subnu d r rs => encDrs 0x25 d r rs
  | .subnui d r n => encDrn 0x25 1 d r n
  | .mulnu d r rs => encDrs 0x26 d r rs
  | .mulnui d r n => encDrn 0x26 1 d r n
  | .divnu d r rs => encDrs 0x27 d r rs
  | .divnui d r n => encDrn 0x27 1 d r n
  | .and d r rs => encDrs 0x28 d r rs
  | .andi d r n => encDrn 0x28 1 d r n
  | .or d r rs => encDrs 0x29 d r rs
  | .ori d r n => encDrn 0x29 1 d r n
  | .xor d r rs => encDrs 0x2A d r rs
  | .xori d r n => encDrn 0x2A 1 d r n
  | .cmp d r rs => encDrs 0x2B d r rs
  | .cmpi d r n => encDrn 0x2B 1 d r n
  | .extrct d r rs => encDrs 0x2C d r rs
  | .extrcti d r n => encDrn 0x2C 1 d r n
  | .lsr d r rs => encDrs 0x2D d r rs
  | .lsri d r n => encDrn 0x2D 1 d r n
  | .asr d r rs => encDrs 0x2E d r rs
  | .asri d r n => encDrn 0x2E 1 d r n
  | .ror d r rs => encDrs 0x2F d r rs
  | .rori d r n => encDrn 0x2F 1 d r n
  | .vect d n => leBytes 3 (n.toNat * 2 ^ 13 + d * 2 ^ 8 + 0x32)
  | .loop d r rs => encDrs 0x33 d r rs
  | .loopi d r f => leBytes 3 (word24 f.toNat r 1 d 0x33)
  | .max d r rs => encDrs 0x34 d r rs
  | .maxi d r n => encDrn 0x34 1 d r n
  | .min d r rs => encDrs 0x35 d r rs
  | .mini d r n => encDrn 0x35 1 d r n
  | .add3 d r rs rt zz u => encDrst 0x60 d r rs rt zz u
  | .add3i d r n rt zz u => encDrnt 0x60 d r n rt zz u
  | .sub3 d r rs rt zz u => encDrst 0x61 d r rs rt zz u
  | .sub3i d r n rt zz u => encDrnt 0x61 d r n rt zz u
  | .mac d r rs rt zz u => encDrst 0x62 d r rs rt zz u
  | .maci d r n rt zz u => encDrnt 0x62 d r n rt zz u
  | .ddiv d r rs rt zz u => encDrst 0x63 d r rs rt zz u
  | .ddivi d r n rt zz u => encDrnt 0x63 d r n rt zz u
  | .and3 d r rs rt zz u => encDrst 0x68 d r rs rt zz u
  | .and3i d r n rt zz u => encDrnt 0x68 d r n rt zz u
  | .or3 d r rs rt zz u => encDrst 0x69 d r rs rt zz u
  | .or3i d r n rt zz u => encDrnt 0x69 d r n rt zz u
  | .xor3 d r rs rt zz u => encDrst 0x6A d r rs rt zz u
  | .xor3i d r n rt zz u => encDrnt 0x6A d r n rt zz u
  | .insrt d r rs rt zz u => encDrst 0x6B d r rs rt zz u
  | .insrti d r n rt zz u => encDrnt 0x6B d r n rt zz u
  | .extrctD d r rs rt zz u => encDrst 0x6C d r rs rt zz u
  | .extrctiD d r n rt zz u => encDrnt 0x6C d r n rt zz u
  | .shr d r rs rt zz u => encDrst 0x6D d r rs rt zz u
  | .shri d r n rt zz u => encDrnt 0x6D d r n rt zz u
  | .asrD d r rs rt zz u => encDrst 0x6E d r rs rt zz u
  | .asriD d r n rt zz u => encDrnt 0x6E d r n rt zz u
  | .rorD d r rs rt zz u => encDrst 0x6F d r rs rt zz u
  | .roriD d r n rt zz u => encDrnt 0x6F d r n rt zz u
  | .max3 d r rs rt zz u => encDrst 0x70 d r rs rt zz u
  | .max3i d r n rt zz u => encDrnt 0x70 d r n rt zz u
  | .min3 d r rs rt zz u => encDrst 0x71 d r rs rt zz u
  | .min3i d r n rt zz u => encDrnt 0x71 d r n rt zz u
  | .median3 d r rs rt zz u => encDrst 0x72 d r rs rt zz u
  | .median3I d r n rt zz u => encDrnt 0x72 d r n rt zz u
  | .intp f => leBytes 4 (f.toNat * 2 ^ 8 + 0x73)
  | .lut f => leBytes 4 (f.toNat * 2 ^ 8 + 0x74)
  | .cmov f => leBytes 4 (f.toNat * 2 ^ 8 + 0x75)
  | .container32 f => leBytes 4 (f.toNat * 2 ^ 8 + 0x77)
  | .mmov f => leBytes 4 (f.toNat * 2 ^ 8 + 0x7A)
  | .pcnd f => leBytes 4 (f.toNat * 2 ^ 8 + 0x7B)
  | .pcb1 f => leBytes 4 (f.toNat * 2 ^ 8 + 0x7C)
  | .stm f => leBytes 4 (f.toNat * 2 ^ 8 + 0x7D)
  | .ldm f => leBytes 4 (f.toNat * 2 ^ 8 + 0x7E)
  | .tt f => leBytes 4 (f.toNat * 2 ^ 8 + 0x7F)
  | .inp d rs z => encDs .inp d rs z
  | .out d rs z => encDs .out d rs z
  | .mov d rs z => encDs .mov d rs z
  | .not d rs z => encDs .not d rs z
  | .neg d rs z => encDs .neg d rs z
  | .inc d rs z => encDs .inc d rs z
  | .dec d rs z => encDs .dec d rs z
  | .abs d rs z => encDs .abs d rs z
  | .nabs d rs z => encDs .nabs d rs z
  | .ldzcnt d rs z => encDs .ldzcnt d rs z
  | .ld1cnt d rs z => encDs .ld1cnt d rs z
  | .trzcnt d rs z => encDs .trzcnt d rs z
  | .tr1cnt d rs z => encDs .tr1cnt d rs z
  | .popcnt d rs z => encDs .popcnt d rs z
  | .sqrt d rs z => encDs .sqrt d rs z
  | .sinpi d rs z => encDs .sinpi d rs z
  | .cospi d rs z => encDs .cospi d rs z
  | .tanpi d rs z => encDs .tanpi d rs z
  | .asinpi d rs z => encDs .asinpi d rs z
  | .acospi d rs z => encDs .acospi d rs z
  | .atanpi d rs z => encDs .atanpi d rs z
  | .int d rs z => encDs .int d rs z
  | .flt d rs z => encDs .flt d rs z
  | .expon d rs z => encDs .expon d rs z
  | .fract d rs z => encDs .fract d rs z
  | .fsqrt d rs z => encDs .fsqrt d rs z
  | .frsqrt d rs z => encDs .frsqrt d rs z
  | .frcp d rs z => encDs .frcp d rs z
  | .ln2p1 d rs z => encDs .ln2p1 d rs z
  | .ln2 d rs z => encDs .ln2 d rs z
  | .exp2m1 d rs z => encDs .exp2m1 d rs z
  | .exp2 d rs z => encDs .exp2 d rs z
  | .rnd d rs z => encDs .rnd d rs z
  | .rndtev d rs z => encDs .rndtev d rs z
  | .rndtod d rs z => encDs .rndtod d rs z
  | .rndtz d rs z => encDs .rndtz d rs z
  | .rndfz d rs z => encDs .rndfz d rs z
  | .ceil d rs z => encDs .ceil d rs z
  | .floor d rs z => encDs .floor d rs z
  | .trap => leBytes 1 0x00
  | .brk => leBytes 1 0x01
  | .nxth => leBytes 1 0x02
  | .nxtw => leBytes 1 0x03
  | .cvt => []
  | .lnp1 => []
  | .ln => []
  | .logp1 => []
  | .log => []
  | .expm1 => []
  | .exp => []
  | .exp10m1 => []
  | .exp10 => []
  | .sin => []
  | .cos => []
  | .tan => []
  | .asin => []
  | .acos => []
  | .atan => []
  | .movi => []
  | .merg => []
  | .eadd => []
  | .mv2 => []
  | .shl => []

/-- The length of the BR or CALLR that carries the displacement. -/
def Disp.length : Disp → Nat
  | .d16 _ => 3
  | .d24 _ => 4

/-- The length in bytes of an instruction, extension bytes included (R96); 0 for a row without an encoding. -/
def instrLength : Instr → Nat
  | .br n => n.length
  | .callr n => n.length
  | .bbs _ _ n => 3 + n.extLen
  | .bbc _ _ n => 3 + n.extLen
  | .brz24 _ _ => 3
  | .brgz24 _ _ => 3
  | .brgez24 _ _ => 3
  | .brev24 _ _ => 3
  | .brnz24 _ _ => 3
  | .brlez24 _ _ => 3
  | .brlz24 _ _ => 3
  | .brod24 _ _ => 3
  | .brz32 _ _ => 4
  | .brgz32 _ _ => 4
  | .brgez32 _ _ => 4
  | .brev32 _ _ => 4
  | .brnz32 _ _ => 4
  | .brlez32 _ _ => 4
  | .brlz32 _ _ => 4
  | .brod32 _ _ => 4
  | .ldi8 _ _ _ => 3
  | .ldi16 _ _ _ => 4
  | .ldi24 _ _ _ => 5
  | .ldi32 _ _ _ => 6
  | .enter _ => 3
  | .exit _ => 3
  | .st8Dbj _ _ _ => 3
  | .st8Dbn _ _ n => 3 + n.extLen
  | .st8Dbjs _ _ _ _ _ => 4
  | .st8Dbjn _ _ _ n _ => 4 + n.extLen
  | .st8Mbjs m _ _ _ _ => 4 + m.extLen
  | .st8Mbjn m _ _ n _ => 4 + n.extLen + m.extLen
  | .st16Dbj _ _ _ => 3
  | .st16Dbn _ _ n => 3 + n.extLen
  | .st16Dbjs _ _ _ _ _ => 4
  | .st16Dbjn _ _ _ n _ => 4 + n.extLen
  | .st16Mbjs m _ _ _ _ => 4 + m.extLen
  | .st16Mbjn m _ _ n _ => 4 + n.extLen + m.extLen
  | .st24Dbj _ _ _ => 3
  | .st24Dbn _ _ n => 3 + n.extLen
  | .st24Dbjs _ _ _ _ _ => 4
  | .st24Dbjn _ _ _ n _ => 4 + n.extLen
  | .st24Mbjs m _ _ _ _ => 4 + m.extLen
  | .st24Mbjn m _ _ n _ => 4 + n.extLen + m.extLen
  | .st32Dbj _ _ _ => 3
  | .st32Dbn _ _ n => 3 + n.extLen
  | .st32Dbjs _ _ _ _ _ => 4
  | .st32Dbjn _ _ _ n _ => 4 + n.extLen
  | .st32Mbjs m _ _ _ _ => 4 + m.extLen
  | .st32Mbjn m _ _ n _ => 4 + n.extLen + m.extLen
  | .ldu8Dbj _ _ _ => 3
  | .ldu8Dbn _ _ n => 3 + n.extLen
  | .ldu8Dbjs _ _ _ _ _ _ => 4
  | .ldu8Dbjn _ _ _ n _ _ => 4 + n.extLen
  | .ldu16Dbj _ _ _ => 3
  | .ldu16Dbn _ _ n => 3 + n.extLen
  | .ldu16Dbjs _ _ _ _ _ _ => 4
  | .ldu16Dbjn _ _ _ n _ _ => 4 + n.extLen
  | .ldu24Dbj _ _ _ => 3
  | .ldu24Dbn _ _ n => 3 + n.extLen
  | .ldu24Dbjs _ _ _ _ _ _ => 4
  | .ldu24Dbjn _ _ _ n _ _ => 4 + n.extLen
  | .ldu32Dbj _ _ _ => 3
  | .ldu32Dbn _ _ n => 3 + n.extLen
  | .ldu32Dbjs _ _ _ _ _ _ => 4
  | .ldu32Dbjn _ _ _ n _ _ => 4 + n.extLen
  | .ld8Dbj _ _ _ => 3
  | .ld8Dbn _ _ n => 3 + n.extLen
  | .ld8Dbjs _ _ _ _ _ _ => 4
  | .ld8Dbjn _ _ _ n _ _ => 4 + n.extLen
  | .ld16Dbj _ _ _ => 3
  | .ld16Dbn _ _ n => 3 + n.extLen
  | .ld16Dbjs _ _ _ _ _ _ => 4
  | .ld16Dbjn _ _ _ n _ _ => 4 + n.extLen
  | .ld24Dbj _ _ _ => 3
  | .ld24Dbn _ _ n => 3 + n.extLen
  | .ld24Dbjs _ _ _ _ _ _ => 4
  | .ld24Dbjn _ _ _ n _ _ => 4 + n.extLen
  | .ld32Dbj _ _ _ => 3
  | .ld32Dbn _ _ n => 3 + n.extLen
  | .ld32Dbjs _ _ _ _ _ _ => 4
  | .ld32Dbjn _ _ _ n _ _ => 4 + n.extLen
  | .fld8Dbj _ _ _ => 3
  | .fld8Dbn _ _ n => 3 + n.extLen
  | .fld8Dbjs _ _ _ _ _ _ => 4
  | .fld8Dbjn _ _ _ n _ _ => 4 + n.extLen
  | .fld16Dbj _ _ _ => 3
  | .fld16Dbn _ _ n => 3 + n.extLen
  | .fld16Dbjs _ _ _ _ _ _ => 4
  | .fld16Dbjn _ _ _ n _ _ => 4 + n.extLen
  | .fld24Dbj _ _ _ => 3
  | .fld24Dbn _ _ n => 3 + n.extLen
  | .fld24Dbjs _ _ _ _ _ _ => 4
  | .fld24Dbjn _ _ _ n _ _ => 4 + n.extLen
  | .fld32Dbj _ _ _ => 3
  | .fld32Dbn _ _ n => 3 + n.extLen
  | .fld32Dbjs _ _ _ _ _ _ => 4
  | .fld32Dbjn _ _ _ n _ _ => 4 + n.extLen
  | .pld8Dbj _ _ _ => 3
  | .pld8Dbn _ _ n => 3 + n.extLen
  | .pld8Dbjs _ _ _ _ _ _ => 4
  | .pld8Dbjn _ _ _ n _ _ => 4 + n.extLen
  | .pld16Dbj _ _ _ => 3
  | .pld16Dbn _ _ n => 3 + n.extLen
  | .pld16Dbjs _ _ _ _ _ _ => 4
  | .pld16Dbjn _ _ _ n _ _ => 4 + n.extLen
  | .pld24Dbj _ _ _ => 3
  | .pld24Dbn _ _ n => 3 + n.extLen
  | .pld24Dbjs _ _ _ _ _ _ => 4
  | .pld24Dbjn _ _ _ n _ _ => 4 + n.extLen
  | .pld32Dbj _ _ _ => 3
  | .pld32Dbn _ _ n => 3 + n.extLen
  | .pld32Dbjs _ _ _ _ _ _ => 4
  | .pld32Dbjn _ _ _ n _ _ => 4 + n.extLen
  | .lea8Dbjs _ _ _ _ _ _ => 4
  | .lea8Dbjn _ _ _ n _ _ => 4 + n.extLen
  | .lea16Dbjs _ _ _ _ _ _ => 4
  | .lea16Dbjn _ _ _ n _ _ => 4 + n.extLen
  | .lea24Dbjs _ _ _ _ _ _ => 4
  | .lea24Dbjn _ _ _ n _ _ => 4 + n.extLen
  | .lea32Dbjs _ _ _ _ _ _ => 4
  | .lea32Dbjn _ _ _ n _ _ => 4 + n.extLen
  | .callDbj _ _ _ => 3
  | .callDbn _ _ n => 3 + n.extLen
  | .callDbjs _ _ _ _ _ _ => 4
  | .callDbjn _ _ _ n _ _ => 4 + n.extLen
  | .add _ _ _ => 3
  | .addi _ _ n => 3 + n.extLen
  | .sub _ _ _ => 3
  | .subi _ _ n => 3 + n.extLen
  | .mul _ _ _ => 3
  | .muli _ _ n => 3 + n.extLen
  | .div _ _ _ => 3
  | .divi _ _ n => 3 + n.extLen
  | .addnu _ _ _ => 3
  | .addnui _ _ n => 3 + n.extLen
  | .subnu _ _ _ => 3
  | .subnui _ _ n => 3 + n.extLen
  | .mulnu _ _ _ => 3
  | .mulnui _ _ n => 3 + n.extLen
  | .divnu _ _ _ => 3
  | .divnui _ _ n => 3 + n.extLen
  | .and _ _ _ => 3
  | .andi _ _ n => 3 + n.extLen
  | .or _ _ _ => 3
  | .ori _ _ n => 3 + n.extLen
  | .xor _ _ _ => 3
  | .xori _ _ n => 3 + n.extLen
  | .cmp _ _ _ => 3
  | .cmpi _ _ n => 3 + n.extLen
  | .extrct _ _ _ => 3
  | .extrcti _ _ n => 3 + n.extLen
  | .lsr _ _ _ => 3
  | .lsri _ _ n => 3 + n.extLen
  | .asr _ _ _ => 3
  | .asri _ _ n => 3 + n.extLen
  | .ror _ _ _ => 3
  | .rori _ _ n => 3 + n.extLen
  | .vect _ _ => 3
  | .loop _ _ _ => 3
  | .loopi _ _ _ => 3
  | .max _ _ _ => 3
  | .maxi _ _ n => 3 + n.extLen
  | .min _ _ _ => 3
  | .mini _ _ n => 3 + n.extLen
  | .add3 _ _ _ _ _ _ => 4
  | .add3i _ _ n _ _ _ => 4 + n.extLen
  | .sub3 _ _ _ _ _ _ => 4
  | .sub3i _ _ n _ _ _ => 4 + n.extLen
  | .mac _ _ _ _ _ _ => 4
  | .maci _ _ n _ _ _ => 4 + n.extLen
  | .ddiv _ _ _ _ _ _ => 4
  | .ddivi _ _ n _ _ _ => 4 + n.extLen
  | .and3 _ _ _ _ _ _ => 4
  | .and3i _ _ n _ _ _ => 4 + n.extLen
  | .or3 _ _ _ _ _ _ => 4
  | .or3i _ _ n _ _ _ => 4 + n.extLen
  | .xor3 _ _ _ _ _ _ => 4
  | .xor3i _ _ n _ _ _ => 4 + n.extLen
  | .insrt _ _ _ _ _ _ => 4
  | .insrti _ _ n _ _ _ => 4 + n.extLen
  | .extrctD _ _ _ _ _ _ => 4
  | .extrctiD _ _ n _ _ _ => 4 + n.extLen
  | .shr _ _ _ _ _ _ => 4
  | .shri _ _ n _ _ _ => 4 + n.extLen
  | .asrD _ _ _ _ _ _ => 4
  | .asriD _ _ n _ _ _ => 4 + n.extLen
  | .rorD _ _ _ _ _ _ => 4
  | .roriD _ _ n _ _ _ => 4 + n.extLen
  | .max3 _ _ _ _ _ _ => 4
  | .max3i _ _ n _ _ _ => 4 + n.extLen
  | .min3 _ _ _ _ _ _ => 4
  | .min3i _ _ n _ _ _ => 4 + n.extLen
  | .median3 _ _ _ _ _ _ => 4
  | .median3I _ _ n _ _ _ => 4 + n.extLen
  | .intp _ => 4
  | .lut _ => 4
  | .cmov _ => 4
  | .container32 _ => 4
  | .mmov _ => 4
  | .pcnd _ => 4
  | .pcb1 _ => 4
  | .stm _ => 4
  | .ldm _ => 4
  | .tt _ => 4
  | .inp _ _ _ => 3
  | .out _ _ _ => 3
  | .mov _ _ _ => 3
  | .not _ _ _ => 3
  | .neg _ _ _ => 3
  | .inc _ _ _ => 3
  | .dec _ _ _ => 3
  | .abs _ _ _ => 3
  | .nabs _ _ _ => 3
  | .ldzcnt _ _ _ => 3
  | .ld1cnt _ _ _ => 3
  | .trzcnt _ _ _ => 3
  | .tr1cnt _ _ _ => 3
  | .popcnt _ _ _ => 3
  | .sqrt _ _ _ => 3
  | .sinpi _ _ _ => 3
  | .cospi _ _ _ => 3
  | .tanpi _ _ _ => 3
  | .asinpi _ _ _ => 3
  | .acospi _ _ _ => 3
  | .atanpi _ _ _ => 3
  | .int _ _ _ => 3
  | .flt _ _ _ => 3
  | .expon _ _ _ => 3
  | .fract _ _ _ => 3
  | .fsqrt _ _ _ => 3
  | .frsqrt _ _ _ => 3
  | .frcp _ _ _ => 3
  | .ln2p1 _ _ _ => 3
  | .ln2 _ _ _ => 3
  | .exp2m1 _ _ _ => 3
  | .exp2 _ _ _ => 3
  | .rnd _ _ _ => 3
  | .rndtev _ _ _ => 3
  | .rndtod _ _ _ => 3
  | .rndtz _ _ _ => 3
  | .rndfz _ _ _ => 3
  | .ceil _ _ _ => 3
  | .floor _ _ _ => 3
  | .trap => 1
  | .brk => 1
  | .nxth => 1
  | .nxtw => 1
  | .cvt => 0
  | .lnp1 => 0
  | .ln => 0
  | .logp1 => 0
  | .log => 0
  | .expm1 => 0
  | .exp => 0
  | .exp10m1 => 0
  | .exp10 => 0
  | .sin => 0
  | .cos => 0
  | .tan => 0
  | .asin => 0
  | .acos => 0
  | .atan => 0
  | .movi => 0
  | .merg => 0
  | .eadd => 0
  | .mv2 => 0
  | .shl => 0

/-- The longest instruction: a 32-bit store immediate with two 4-byte immediates (R96). -/
def maxLength : Nat := 12

/-- The bytes of the instruction whose first `nbits` bits are `w` and whose further bits are 0. -/
def tableBytes (nbits w : Nat) : List Byte :=
  leBytes (nbits / 8) w ++ List.replicate (maxLength - nbits / 8) 0

/-- The decoder on a word numbered as spec/opcode_table.json numbers it. -/
def decodeTableWord (nbits w : Nat) : Option Instr :=
  match decode (tableBytes nbits w) with
  | .ok i => some i
  | .error _ => none

end Sys2Proof
end

