-- ==== Sys2Proof/Machine/State.lean ====
section
/-! DEFINITION. The state of the machine as plain data, the reasons a step can stop, and the state after reset. -/

namespace Sys2Proof.Machine

/-- What a region of the address map holds (20_memory.md R67). -/
inductive RegionKind where
  /-- data memory: loads and stores, no fetch -/
  | ram
  /-- program text: fetch and loads, no store (R71) -/
  | text
  deriving DecidableEq, Repr

/-- A run of addresses of one kind. -/
structure Region where
  /-- the first address -/
  base : Nat
  /-- how many bytes -/
  size : Nat
  kind : RegionKind
  deriving DecidableEq, Repr

/-- Memory (20_memory.md R60): the address map `MemMap` (R67) and the bytes. In `map` the first region that holds an
address decides; an address in no region is absent. `cells` lists the bytes that are not 0, addresses strictly rising. -/
structure Memory where
  map : List Region
  cells : List Host.Cell
  deriving DecidableEq, Repr

/-- A general register: 32 value bits and a type code (10_state.md R20, R24). -/
structure Reg where
  val : Word
  ty : TyCode
  deriving DecidableEq, Repr

/-- A port event, as the model records it (20_memory.md R72). -/
inductive PortEvent where
  /-- IN read `value` from `port` -/
  | read (port value : Word)
  /-- OUT wrote `value` to `port` -/
  | write (port value : Word)
  deriving DecidableEq, Repr

/-- The state of the machine. `events` and `draws` are the model's own fields (entry 12); everything else is the spec's
(10_state.md). -/
structure State where
  /-- R0 to R30; R28 is the residue register (10_state.md R21) -/
  regs : Vector Reg 31
  /-- R31, the address of the next instruction between instructions (10_state.md R27) -/
  pc : Word
  /-- R28 is in the never-written state into which `poisonResidue()` puts it (00_scope.md R13, 10_state.md R23, R29): no
  instruction can read it until one writes it -/
  residueLost : Bool
  mem : Memory
  /-- the port events so far, oldest first -/
  events : List PortEvent
  /-- how many port reads have drawn a value -/
  draws : Nat
  deriving DecidableEq, Repr

/-- The causes of a trap (60_exceptions.md R370). -/
inductive TrapCause where
  /-- TRAP, an unassigned opcode or sub-opcode, LDI with `x = 1` -/
  | illegalInstruction
  /-- BRK -/
  | breakpoint
  /-- a typed instruction whose register operands differ in type -/
  | typeMismatch
  deriving DecidableEq, Repr

/-- The ways a step stops with a fault; the state is the one before the instruction (60_exceptions.md R374, R375). -/
inductive Fault where
  /-- a trap the source names (R370). The spec gives no entry and makes it terminal (R374): safe. -/
  | trap (cause : TrapCause)
  /-- a load, store or fetch of an address the map does not hold (20_memory.md R67): safe -/
  | memoryAccess (addr : Word)
  /-- a store to a `text` byte (20_memory.md R71): safe -/
  | storeToText (addr : Word)
  /-- a fetch from a byte not marked `text` (20_memory.md R71): safe -/
  | fetchOutsideText (addr : Word)
  /-- instruction bytes, or the target of NXTH or NXTW, past address 0xFFFFFFFF (10_state.md R28): safe -/
  | fetchWrap
  /-- an operand read of register `i` while it holds no value: R28 after `poisonResidue()` (10_state.md R29), and no
  other register, since every register holds a value at reset (entry 1): safe -/
  | unwrittenRegister (i : RegNum)
  /-- a division by zero (42_muldiv.md R185 d): safe -/
  | divideByZero
  /-- a quotient that does not fit (42_muldiv.md R185 d): safe -/
  | divideOverflow
  deriving DecidableEq, Repr

/-- The refusals, which the spec calls `Unmodelled(name)` (60_exceptions.md R376). All are safe: the run ends. -/
inductive Refusal where
  /-- raised by `exec` for an instruction without a meaning; no instruction is in that case -/
  | notModelled (mnemonic : String)
  /-- a typed instruction met an operand of type float or Posit (10_state.md R26) -/
  | floatOrPosit
  /-- `zz` or `z` set where no rule gives it a meaning (30_encoding.md R113) -/
  | operandModifier
  /-- `u = 1` in a 32-bit load, LEA or CALL (44_loadstore.md R231) -/
  | loadUBit
  /-- a shift with a location-and-length immediate (43_shift_bitfield.md R200 f) -/
  | shiftLocLen
  /-- a shift count of magnitude 32 or more, 64 for double length (43_shift_bitfield.md R201) -/
  | shiftCountRange
  /-- a bit field outside its source, of length 0 or over 32, or a descriptor with more than 12 bits (R200 e, R215) -/
  | bitFieldRange
  /-- SQRT of a negative signed operand (47_single_operand.md R330) -/
  | sqrtNegative
  /-- opcode 0x77 and the mnemonics only it could hold (47_single_operand.md R314) -/
  | fmt32ds
  /-- EADD, MV2, SHL: no opcode, not an instruction of the machine (46_irregular.md R306 to R308) -/
  | noOpcode
  /-- CMOV (43_shift_bitfield.md R222) -/
  | cmov
  /-- MERG, which has no encoding either (43_shift_bitfield.md R221) -/
  | merg
  /-- INTP (46_irregular.md R300) -/
  | intp
  /-- LUT (46_irregular.md R301) -/
  | lut
  /-- MMOV (46_irregular.md R302) -/
  | mmov
  /-- LDM (46_irregular.md R303) -/
  | ldm
  /-- STM (46_irregular.md R304) -/
  | stm
  /-- TT (46_irregular.md R305) -/
  | tt
  /-- LOOP and LOOPI (45_control.md R276) -/
  | loop
  /-- ENTER (45_control.md R277) -/
  | enter
  /-- EXIT (45_control.md R278) -/
  | exit
  /-- PCB1 (45_control.md R279) -/
  | pcb1
  /-- VECT (45_control.md R280) -/
  | vect
  /-- PCND (45_control.md R281) -/
  | pcnd
  /-- a float single operand instruction, by its mnemonic (47_single_operand.md R331 to R369) -/
  | floatOp (op : SingleOp)
  deriving DecidableEq, Repr

/-- Why a meaning has no next state. -/
inductive Stop where
  | fault (r : Fault)
  | refused (r : Refusal)
  deriving DecidableEq, Repr

/-- A computation that may stop. -/
abbrev Res (α : Type) := Except Stop α

/-- What a meaning answers. -/
abbrev Out := Host.Outcome State Fault Refusal

/-- The address map after reset. The spec leaves `MemMap` open (20_memory.md R67, 10_state.md R41). DESIGN CHOICE
(entry 4), unsafe: text from 0x1000 to 0x7FFF, ram everywhere else. -/
def resetMap : List Region :=
  [{ base := 0x1000, size := 0x7000, kind := .text }, { base := 0, size := 0x100000000, kind := .ram }]

/-- The machine right after reset (10_state.md R41, 70_reset_and_hazards.md R390). The spec gives no register a value;
value 0 with type U, readable, is a DESIGN CHOICE (entry 1), unsafe. Memory lists nothing (entry 5). -/
def State.reset : State where
  regs := Vector.replicate 31 { val := 0, ty := .u }
  pc := Config.resetPc
  residueLost := false
  mem := { map := resetMap, cells := [] }
  events := []
  draws := 0

end Sys2Proof.Machine
end

