-- ==== Sys2Proof/Machine/Ops.lean ====
section
/-! DEFINITION. The named operations over registers and memory, taking a trap, and the write-back every instruction
ends with. -/

namespace Sys2Proof.Machine

/-! ## Ending an instruction -/

/-- The outcome of a meaning. -/
def outcome : Res State → Out
  | .ok s => .next s
  | .error (.fault r) => .fault r
  | .error (.refused r) => .refused r

/-- Taking a trap (60_exceptions.md R374): the spec gives no saved state, no vector and no return; a trap is terminal and
the state is the state before the instruction. There is no return from a trap to model beside it. -/
def takeTrap (c : TrapCause) : Out := .fault (.trap c)

/-- Stop with a fault. -/
def faultIf (p : Prop) [Decidable p] (r : Fault) : Res Unit := if p then .error (.fault r) else .ok ()

/-- Stop with a refusal. -/
def refuseIf (p : Prop) [Decidable p] (r : Refusal) : Res Unit := if p then .error (.refused r) else .ok ()

/-! ## Memory -/

/-- The kind of the region that holds an address, none where no region does (20_memory.md R67). -/
def regionAt : List Region → Nat → Option RegionKind
  | [], _ => none
  | r :: rs, a => if r.base ≤ a ∧ a < r.base + r.size then some r.kind else regionAt rs a

/-- The byte a list of cells gives an address: 0 where it lists none (entry 5). -/
def cellsRead : List Host.Cell → Nat → Byte
  | [], _ => 0
  | (x, c) :: rest, a => if x = a then c else cellsRead rest a

/-- The cells after a byte is written, in canonical form again. -/
def cellsWrite : List Host.Cell → Nat → Byte → List Host.Cell
  | [], a, b => if b = 0 then [] else [(a, b)]
  | (x, c) :: rest, a, b =>
    if a < x then (if b = 0 then (x, c) :: rest else (a, b) :: (x, c) :: rest)
    else if a = x then (if b = 0 then rest else (a, b) :: rest)
    else (x, c) :: cellsWrite rest a b

/-- The cells lie at strictly rising addresses from `lo` up to the end of the 32-bit space and none of them is 0. -/
def cellsWf : (lo : Nat) → List Host.Cell → Bool
  | _, [] => true
  | lo, (x, c) :: rest => decide (lo ≤ x) && decide (x < 2 ^ 32) && decide (c ≠ 0) && cellsWf (x + 1) rest

/-- The canonical form of a memory: rising addresses, no zero byte listed, every listed byte held by the map. -/
def Memory.wf (m : Memory) : Bool :=
  cellsWf 0 m.cells && m.cells.all fun c => (regionAt m.map c.1).isSome

/-- The kind of the byte at an address. -/
def Memory.kind (m : Memory) (a : Nat) : Option RegionKind := regionAt m.map a

/-- The content of the byte at an address. -/
def Memory.byte (m : Memory) (a : Nat) : Byte := cellsRead m.cells a

/-- The memory with one byte replaced, whatever the kind of its region. -/
def Memory.setByte (m : Memory) (a : Nat) (b : Byte) : Memory := { m with cells := cellsWrite m.cells a b }

/-- Every one of the `n` bytes from `a` up, modulo 2^32, is held by the map; else the fault names the first that is
not (00_scope.md R14, 20_memory.md R67). -/
def checkHeld (m : Memory) (a : Word) : Nat → Res Unit
  | 0 => .ok ()
  | n + 1 => do
    faultIf (m.kind a.toNat = none) (.memoryAccess a)
    checkHeld m (a + 1) n

/-- None of the `n` bytes from `a` up, modulo 2^32, is text; else the fault names the first that is (20_memory.md R71). -/
def checkNotText (m : Memory) (a : Word) : Nat → Res Unit
  | 0 => .ok ()
  | n + 1 => do
    faultIf (m.kind a.toNat = some .text) (.storeToText a)
    checkNotText m (a + 1) n

/-- The `n` bytes from `a` up, modulo 2^32. -/
def Memory.bytes (m : Memory) (a : Word) : Nat → List Byte
  | 0 => []
  | n + 1 => m.byte a.toNat :: m.bytes (a + 1) n

/-- The memory with the bytes given written from `a` up, modulo 2^32. -/
def Memory.setBytes (m : Memory) (a : Word) : List Byte → Memory
  | [] => m
  | b :: bs => (m.setByte a.toNat b).setBytes (a + 1) bs

/-- Bytes as a number, the least significant first (20_memory.md R61). -/
def bytesToNat : List Byte → Nat
  | [] => 0
  | b :: bs => b.toNat + 256 * bytesToNat bs

/-- The low `n` bytes of a value, the least significant first (20_memory.md R61, R66). -/
def natToBytes : (n v : Nat) → List Byte
  | 0, _ => []
  | n + 1, v => BitVec.ofNat 8 v :: natToBytes n (v / 256)

/-- `MemRead(addr, n)` (00_scope.md R14). -/
def memRead (m : Memory) (a : Word) (n : Nat) : Res Nat := do
  checkHeld m a n
  return bytesToNat (m.bytes a n)

/-- `MemWrite(addr, n, v)` (00_scope.md R14): all bytes are checked before any is written (44_loadstore.md R400). -/
def memWrite (m : Memory) (a : Word) (n : Nat) (v : Word) : Res Memory := do
  checkHeld m a n
  checkNotText m a n
  return m.setBytes a (natToBytes n v.toNat)

/-! ## Registers -/

/-- Registers R0 to R30; R31 is the pc, whose type is U (10_state.md R27). -/
def State.reg (s : State) (i : RegNum) : Reg :=
  if h : i.val < 31 then s.regs[i.val] else { val := s.pc, ty := .u }

/-- The state with register `i` replaced; for R31 the pc takes the value and the type is dropped (00_scope.md R12). A write
of R28 makes it readable again (10_state.md R29). -/
def State.setReg (s : State) (i : RegNum) (r : Reg) : State :=
  if h : i.val < 31 then { s with regs := s.regs.set i.val r, residueLost := s.residueLost && decide (i ≠ 28) }
  else { s with pc := r.val }

/-- `npc`: the address after an instruction of `len` bytes (30_encoding.md R96). -/
def State.npc (s : State) (len : Nat) : Word := s.pc + BitVec.ofNat 32 len

/-- Every register of the list holds a value (10_state.md R29). -/
def State.readable (s : State) (l : List RegNum) : Bool := !(s.residueLost && l.contains 28)

/-- The operand reads of an instruction, step 5 of 60_exceptions.md R373: a register that holds no value faults. The list
names the register fields read as operands, the base position and R0 in the index position apart (10_state.md R22); the
values are then those of `State.rd`. -/
def State.checkReads (s : State) (l : List RegNum) : Res Unit := faultIf (s.readable l = false) (.unwrittenRegister 28)

/-- `rd(i)` (00_scope.md R11) of a register that holds a value: R31 reads as `npc` with type U. -/
def State.rd (s : State) (npc : Word) (i : RegNum) : Reg := if i = 31 then { val := npc, ty := .u } else s.reg i

/-- `rdBase(i)` (00_scope.md R11): R28 reads as zero. -/
def State.rdBase (s : State) (npc : Word) (i : RegNum) : Word := if i = 28 then 0 else (s.rd npc i).val

/-- `rdIndex(i)` (00_scope.md R11): R0 reads as zero. -/
def State.rdIndex (s : State) (npc : Word) (i : RegNum) : Word := if i = 0 then 0 else (s.rd npc i).val

/-- `wr(d, v, t)` (00_scope.md R12) with the advance of the pc: a write to R31 is a jump, else the pc becomes `npc`. -/
def State.wr (s : State) (npc : Word) (d : RegNum) (v : Word) (t : TyCode) : State :=
  if d = 31 then { s with pc := v } else { s.setReg d { val := v, ty := t } with pc := npc }

/-- `poisonResidue()` (00_scope.md R13, 10_state.md R23): R28 holds no value until it is written again (entry 2). -/
def State.poisonResidue (s : State) : State := { s with residueLost := true }

/-- What an instruction does to the residue register beside its destination (10_state.md R23). -/
inductive ResidueEffect where
  /-- no residue update -/
  | keep
  /-- the residue is written, with the type written to D -/
  | put (v : Word)
  /-- a residue update is enabled and no rule says what is written -/
  | unstated
  deriving DecidableEq, Repr

/-- The end of an instruction with a destination: `wr`, then the residue (40_addsub.md R166). When D is the residue
register and the residue is updated, R28 is left without a value (10_state.md R23). -/
def State.writeBack (s : State) (npc : Word) (d : RegNum) (v : Word) (t : TyCode) : ResidueEffect → State
  | .keep => s.wr npc d v t
  | .put w =>
    if d = 28 then (s.wr npc d v t).poisonResidue else (s.wr npc d v t).setReg 28 { val := w, ty := t }
  | .unstated => (s.wr npc d v t).poisonResidue

/-! ## Ports (20_memory.md R72) -/

/-- The value `PortRead` draws for a port in this state. -/
def State.portDraw (s : State) (p : Word) : Word := Config.portIn s.draws p

/-- `PortRead(p)`: the draw is counted and recorded. -/
def State.portRead (s : State) (p : Word) : State :=
  { s with events := s.events ++ [.read p (s.portDraw p)], draws := s.draws + 1 }

/-- `PortWrite(p, v)`: the event is recorded. -/
def State.portWrite (s : State) (p v : Word) : State := { s with events := s.events ++ [.write p v] }

end Sys2Proof.Machine
end

