-- ==== Sys2Proof/Machine/Operands.lean ====
section
/-! DEFINITION. The operand forms: immediates, the type check, effective addresses, bit-field descriptors and the
reserved field values. -/

namespace Sys2Proof.Machine

/-! ## Immediates (30_encoding.md R101, R104) -/

/-- The context an immediate is read in: displacement, or the type of the register operands. -/
inductive ImmCtx where
  | disp
  | unsigned
  | signed
  deriving DecidableEq, Repr

/-- The context a common operand type gives (R101); the typed families read no immediate for F or P. -/
def ctxOf (t : TyCode) : ImmCtx := if t = .s then .signed else .unsigned

/-- Following data shorter than 32 bits: sign-extended in contexts D and S, zero-extended in context U (R101). -/
def extendData {w : Nat} (v : BitVec w) : ImmCtx → Word
  | .disp => v.signExtend 32
  | .signed => v.signExtend 32
  | .unsigned => v.setWidth 32

/-- `immVal(f, ext, t)` (R101). -/
def immVal (n : Imm5) (c : ImmCtx) : Word :=
  match n with
  | .short v => v.setWidth 32
  | .neg v => v.setWidth 32 - 4
  | .data1 v => extendData v c
  | .data2 v => extendData v c
  | .data3 v => extendData v c
  | .data4 v => v
  | .wide v => v.signExtend 32

/-- The displacement of BR and CALLR (R105). -/
def dispVal : Disp → Word
  | .d16 v => v.signExtend 32
  | .d24 v => v.signExtend 32

/-- `lengthen(t, v)` for a datum of `w` bits (10_state.md R37). -/
def lengthen {w : Nat} (t : TyCode) (v : BitVec w) : Word := if t = .s then v.signExtend 32 else v.setWidth 32

/-! ## The type check (10_state.md R26) -/

/-- The type is float or Posit. -/
def isFloaty (t : TyCode) : Bool := t == .f || t == .p

/-- `typeCheck(ops)`: float or Posit first, then equality of all types; the answer is the common type. -/
def typeCheck (t : TyCode) (ts : List TyCode) : Res TyCode := do
  refuseIf (isFloaty t || ts.any isFloaty) .floatOrPosit
  faultIf (ts.any (· ≠ t)) (.trap .typeMismatch)
  return t

/-- The check of the shifts and bit fields: R, and T when present, are not float or Posit (43_shift_bitfield.md R200 a). -/
def refuseFloaty (ts : List TyCode) : Res Unit := refuseIf (ts.any isFloaty) .floatOrPosit

/-! ## Effective addresses (44_loadstore.md R230) -/

/-- "B + J * ds", with the index scale given. -/
def eaIndex (s : State) (npc : Word) (b j : RegNum) (scale : Nat) : Word :=
  s.rdBase npc b + s.rdIndex npc j * BitVec.ofNat 32 scale

/-- "B + N". -/
def eaOffset (s : State) (npc : Word) (b : RegNum) (n : Imm5) : Word := s.rdBase npc b + immVal n .disp

/-- `Y = yy + 1` (30_encoding.md R107). -/
def scaleY (y : BitVec 2) : Nat := y.toNat + 1

/-- "B + J * Y * ds + S". -/
def eaIndexReg (s : State) (npc : Word) (b j rs : RegNum) (scale : Nat) : Word :=
  eaIndex s npc b j scale + (s.rd npc rs).val

/-- "B + J * Y * ds + N". -/
def eaIndexImm (s : State) (npc : Word) (b j : RegNum) (n : Imm5) (scale : Nat) : Word :=
  eaIndex s npc b j scale + immVal n .disp

/-! ## Reserved field values (30_encoding.md R113) -/

/-- `u = 1` in a 32-bit load, LEA or CALL. -/
def checkLoadU (u : Bool) : Res Unit := refuseIf (u = true) .loadUBit

/-- `zz` other than 00 where the family gives it no meaning. -/
def checkZZ (zz : BitVec 2) : Res Unit := refuseIf (zz ≠ 0) .operandModifier

/-- The 13-bit form of an immediate. -/
def isWide : Imm5 → Bool
  | .wide _ => true
  | _ => false

/-- A shift count may not have the 13-bit form (43_shift_bitfield.md R200 f). -/
def checkShiftImm (n : Imm5) : Res Unit := refuseIf (isWide n = true) .shiftLocLen

/-- `locLen(fo)` (43_shift_bitfield.md R200 e): location and length, refused if a higher bit is set. -/
def locLen (fo : Word) : Res (Nat × Nat) := do
  refuseIf (fo.toNat / 2 ^ 12 ≠ 0) .bitFieldRange
  return (fo.toNat / 2 ^ 6 % 2 ^ 6, fo.toNat % 2 ^ 6)

/-- The residue effect of `u` in families that state what is written. -/
def residueIf (u : Bool) (v : Word) : ResidueEffect := if u then .put v else .keep

/-- The field descriptor an immediate gives EXTRCTI and INSRTI, for `locLen` (43_shift_bitfield.md R216, R218, R220). The
13-bit form is its 12 bits (30_encoding.md R103), so that the location is `{n[3:0], ext[0][7:6]}` as R216 says; every other
form is the immediate in displacement context. DESIGN CHOICE (entry 21): R216 writes `locLen(immVal(n, ext, D))`, whose check
would refuse a 13-bit form with its top bit set, a location of 32 to 63. -/
def immDescriptor : Imm5 → Word
  | .wide v => v.setWidth 32
  | n => immVal n .disp

/-- The residue effect of `u` in families that state no value (30_encoding.md R113). -/
def unstatedIf (u : Bool) : ResidueEffect := if u then .unstated else .keep

end Sys2Proof.Machine
end

