-- ==== Sys2Proof/Machine/Flags.lean ====
section
/-! DEFINITION. What other machines hold in flags. This machine has no flag register (10_state.md R30): the carry, the
overflow, the remainder and the upper half of a product go to the residue register, a comparison goes to a general
register, and the conditional branches test a register. -/

namespace Sys2Proof.Machine

/-- `val_t(v)` (40_addsub.md R150): the integer a pattern stands for. -/
def valOf (t : TyCode) (v : Word) : Int := if t = .s then v.toInt else v.toNat

/-- `result(E)` (40_addsub.md R150): bits 31:0 of the exact result. -/
def resultOf (e : Int) : Word := BitVec.ofInt 32 e

/-- `residue(E)` (40_addsub.md R150): bits 63:32 of the exact result; `/` on `Int` by a positive number is the floor. -/
def residueOf (e : Int) : Word := BitVec.ofInt 32 (e / 2 ^ 32)

/-- The sign change of an operand (40_addsub.md R159). -/
def flipIf (z : Bool) (x : Int) : Int := if z then -x else x

/-- The one's complement of an operand (41_boolean.md R183). -/
def complIf (z : Bool) (v : Word) : Word := if z then ~~~v else v

/-- `z[1]`, bit 26, modifies R (30_encoding.md R108). -/
def zR (zz : BitVec 2) : Bool := zz.getLsbD 1

/-- `z[0]`, bit 25, modifies T (30_encoding.md R108). -/
def zT (zz : BitVec 2) : Bool := zz.getLsbD 0

/-- The conditions of the conditional branches (45_control.md R268). -/
inductive Cond where
  | z | gz | gez | ev | nz | lez | lz | od
  deriving DecidableEq, Repr

/-- `cond(c, v, t)` (45_control.md R268): read as unsigned for type U, as two's complement for type S. -/
def Cond.holds (c : Cond) (v : Word) (t : TyCode) : Bool :=
  match c with
  | .z => v == 0
  | .gz => decide (0 < valOf t v)
  | .gez => decide (0 ≤ valOf t v)
  | .ev => !v.getLsbD 0
  | .nz => v != 0
  | .lez => decide (valOf t v ≤ 0)
  | .lz => decide (valOf t v < 0)
  | .od => v.getLsbD 0

end Sys2Proof.Machine
end

