-- ==== Sys2Proof/Machine/Alu.lean ====
section
/-! DEFINITION. The functions the families compute with: division, shifts, bit fields, order, counts, square root. -/

namespace Sys2Proof.Machine

/-! ## Division (42_muldiv.md R185) -/

/-- A quotient fits the 32-bit destination in the operand type (R185 d). -/
def quotientFits (t : TyCode) (q : Int) : Bool :=
  if t = .s then decide (-(2 ^ 31) ≤ q ∧ q ≤ 2 ^ 31 - 1) else decide (q ≤ 2 ^ 32 - 1)

/-- Quotient and remainder (R185 c, d): truncated toward zero; for operands that are not negative this is the floor. -/
def divide (t : TyCode) (a b : Int) : Res (Word × Word) := do
  faultIf (b = 0) .divideByZero
  faultIf (quotientFits t (a.tdiv b) = false) .divideOverflow
  return (BitVec.ofInt 32 (a.tdiv b), BitVec.ofInt 32 (a.tmod b))

/-- The double-length dividend `{T, R}` (42_muldiv.md R196). -/
def dividend (t : TyCode) (upper lower : Word) : Int := valOf t upper * 2 ^ 32 + lower.toNat

/-! ## Shifts (43_shift_bitfield.md R201) -/

/-- `lsr_W(a, k)` for a count in range; a negative count shifts left. -/
def lsrBy {w : Nat} (a : BitVec w) (k : Int) : BitVec w :=
  if 0 ≤ k then a >>> k.toNat else a <<< (-k).toNat

/-- `asr_W(a, k)` for a count in range; a negative count shifts left. -/
def asrBy {w : Nat} (a : BitVec w) (k : Int) : BitVec w :=
  if 0 ≤ k then a.sshiftRight k.toNat else a <<< (-k).toNat

/-- `ror_W(a, k)`, for every count. -/
def rorBy {w : Nat} (a : BitVec w) (k : Int) : BitVec w := a.rotateRight (k % w).toNat

/-- The range check of a logical or arithmetic shift count. -/
def checkCount (w : Nat) (k : Int) : Res Unit := refuseIf (k ≤ -(w : Int) ∨ (w : Int) ≤ k) .shiftCountRange

/-- `{T, R}` as a 64-bit vector (R208). -/
def pair (upper lower : Word) : BitVec 64 := upper ++ lower

/-! ## Bit fields (43_shift_bitfield.md R215 to R219) -/

/-- The field `src[loc+len-1 : loc]` lengthened by type (R215, R217). -/
def extractField {w : Nat} (t : TyCode) (src : BitVec w) (loc len : Nat) : Word :=
  lengthen t (src.extractLsb' loc len)

/-- `word` with bits `loc+len-1 : loc` replaced by the low `len` bits of `field` (R219). -/
def insertField (word field : Word) (loc len : Nat) : Word :=
  let mask : Word := BitVec.ofNat 32 (2 ^ len - 1) <<< loc
  (word &&& ~~~mask) ||| ((field <<< loc) &&& mask)

/-! ## Order (46_irregular.md R290, R299) -/

/-- The greater of two operands by type. -/
def maxBy (t : TyCode) (a b : Word) : Word := if valOf t b ≤ valOf t a then a else b

/-- The lesser of two operands by type. -/
def minBy (t : TyCode) (a b : Word) : Word := if valOf t a ≤ valOf t b then a else b

/-- The operand that is second when the three are sorted by type (R299). -/
def medianBy (t : TyCode) (a b c : Word) : Word := maxBy t (minBy t a b) (minBy t (maxBy t a b) c)

/-! ## Counts and roots (47_single_operand.md R325 to R330) -/

/-- How many bits equal to `x` follow each other from bit `k - 1` downward. -/
def leadingRun (x : Bool) (v : Word) : (k : Nat) → Nat
  | 0 => 0
  | k + 1 => if v.getLsbD k = x then leadingRun x v k + 1 else 0

/-- How many bits equal to `x` follow each other from bit `32 - k` upward. -/
def trailingRun (x : Bool) (v : Word) : (k : Nat) → Nat
  | 0 => 0
  | k + 1 => if v.getLsbD (31 - k) = x then trailingRun x v k + 1 else 0

/-- How many of the bits `k - 1 : 0` are 1. -/
def onesBelow (v : Word) : (k : Nat) → Nat
  | 0 => 0
  | k + 1 => onesBelow v k + (v.getLsbD k).toNat

/-- The greatest `q` with `q * q ≤ n` among those that agree with `q0` above bit `k - 1`: one bit of the root a step. -/
def rootFrom (n : Nat) : (k q0 : Nat) → Nat
  | 0, q0 => q0
  | k + 1, q0 => if (q0 + 2 ^ k) * (q0 + 2 ^ k) ≤ n then rootFrom n k (q0 + 2 ^ k) else rootFrom n k q0

/-- The integer square root of a number below 2^32 (R330). -/
def isqrt (n : Nat) : Nat := rootFrom n 16 0

/-- `neg(z, v)` (R311). -/
def negIf (z : Bool) (v : Word) : Word := if z then 0 - v else v

end Sys2Proof.Machine
end

