-- ==== Sys2Proof/Machine/AddSub.lean ====
section
/-! DEFINITION. The generic ADD/SUB family (40_addsub.md). -/

namespace Sys2Proof.Machine

/-! ## Shared operations -/

/-- Two register operands and an exact result `f R S`; `upd` says whether the residue is updated
(40_addsub.md R150, R166). -/
def arith2 (f : Int → Int → Int) (upd : Bool) (d r rs : RegNum) (s : State) : Out :=
  let npc := s.npc 3
  let a := s.rd npc r
  let b := s.rd npc rs
  outcome do
    s.checkReads [r, rs]
    let t ← typeCheck a.ty [b.ty]
    let e := f (valOf t a.val) (valOf t b.val)
    return s.writeBack npc d (resultOf e) t (residueIf upd (residueOf e))

/-- The same with an immediate in the place of S, read in the type of R (40_addsub.md R152). -/
def arith2I (f : Int → Int → Int) (upd : Bool) (d r : RegNum) (n : Imm5) (s : State) : Out :=
  let npc := s.npc (3 + n.extLen)
  let a := s.rd npc r
  outcome do
    s.checkReads [r]
    let t ← typeCheck a.ty []
    let e := f (valOf t a.val) (valOf t (immVal n (ctxOf t)))
    return s.writeBack npc d (resultOf e) t (residueIf upd (residueOf e))

/-- Three register operands, the sign flips of R and T, an exact result `f R S T` (40_addsub.md R159). -/
def arith3 (f : Int → Int → Int → Int) (d r rs rt : RegNum) (zz : BitVec 2) (u : Bool) (s : State) : Out :=
  let npc := s.npc 4
  let a := s.rd npc r
  let b := s.rd npc rs
  let c := s.rd npc rt
  outcome do
    s.checkReads [r, rs, rt]
    let t ← typeCheck a.ty [b.ty, c.ty]
    let e := f (flipIf (zR zz) (valOf t a.val)) (valOf t b.val) (flipIf (zT zz) (valOf t c.val))
    return s.writeBack npc d (resultOf e) t (residueIf u (residueOf e))

/-- The same with an immediate in the place of S, read in the common type of R and T (40_addsub.md R160). -/
def arith3I (f : Int → Int → Int → Int) (d r : RegNum) (n : Imm5) (rt : RegNum) (zz : BitVec 2) (u : Bool)
    (s : State) : Out :=
  let npc := s.npc (4 + n.extLen)
  let a := s.rd npc r
  let c := s.rd npc rt
  outcome do
    s.checkReads [r, rt]
    let t ← typeCheck a.ty [c.ty]
    let e := f (flipIf (zR zz) (valOf t a.val)) (valOf t (immVal n (ctxOf t))) (flipIf (zT zz) (valOf t c.val))
    return s.writeBack npc d (resultOf e) t (residueIf u (residueOf e))

/-! ## The instructions -/

/-- ADD, fmt24drs (40_addsub.md R151). -/
def execAdd (d : RegNum) (r : RegNum) (rs : RegNum) (s : State) : Out := arith2 (fun a b => a + b) true d r rs s

/-- ADDI, fmt24drn (40_addsub.md R152). -/
def execAddi (d : RegNum) (r : RegNum) (n : Imm5) (s : State) : Out := arith2I (fun a b => a + b) true d r n s

/-- ADDNU, fmt24drs (40_addsub.md R153). -/
def execAddnu (d : RegNum) (r : RegNum) (rs : RegNum) (s : State) : Out := arith2 (fun a b => a + b) false d r rs s

/-- ADDNUI, fmt24drn (40_addsub.md R154). -/
def execAddnui (d : RegNum) (r : RegNum) (n : Imm5) (s : State) : Out := arith2I (fun a b => a + b) false d r n s

/-- SUB, fmt24drs (40_addsub.md R155). -/
def execSub (d : RegNum) (r : RegNum) (rs : RegNum) (s : State) : Out := arith2 (fun a b => b - a) true d r rs s

/-- SUBI, fmt24drn (40_addsub.md R156). -/
def execSubi (d : RegNum) (r : RegNum) (n : Imm5) (s : State) : Out := arith2I (fun a b => b - a) true d r n s

/-- SUBNU, fmt24drs (40_addsub.md R157). -/
def execSubnu (d : RegNum) (r : RegNum) (rs : RegNum) (s : State) : Out := arith2 (fun a b => b - a) false d r rs s

/-- SUBNUI, fmt24drn (40_addsub.md R158). -/
def execSubnui (d : RegNum) (r : RegNum) (n : Imm5) (s : State) : Out := arith2I (fun a b => b - a) false d r n s

/-- ADD3, fmt32drst (40_addsub.md R159). -/
def execAdd3 (d : RegNum) (r : RegNum) (rs : RegNum) (rt : RegNum) (zz : BitVec 2) (u : Bool) (s : State) : Out := arith3 (fun a b c => a + b + c) d r rs rt zz u s

/-- ADD3I, fmt32drnt (40_addsub.md R160). -/
def execAdd3i (d : RegNum) (r : RegNum) (n : Imm5) (rt : RegNum) (zz : BitVec 2) (u : Bool) (s : State) : Out := arith3I (fun a b c => a + b + c) d r n rt zz u s

/-- SUB3, fmt32drst (40_addsub.md R161). -/
def execSub3 (d : RegNum) (r : RegNum) (rs : RegNum) (rt : RegNum) (zz : BitVec 2) (u : Bool) (s : State) : Out := arith3 (fun a b c => b - a + c) d r rs rt zz u s

/-- SUB3I, fmt32drnt (40_addsub.md R162). -/
def execSub3i (d : RegNum) (r : RegNum) (n : Imm5) (rt : RegNum) (zz : BitVec 2) (u : Bool) (s : State) : Out := arith3I (fun a b c => b - a + c) d r n rt zz u s

/-- CMP, fmt24drs (40_addsub.md R163): the result vector is the open parameter `CmpResult` (entry 9). -/
def execCmp (d : RegNum) (r : RegNum) (rs : RegNum) (s : State) : Out := 
  let npc := s.npc 3
  let a := s.rd npc r
  let b := s.rd npc rs
  outcome do
    s.checkReads [r, rs]
    let t ← typeCheck a.ty [b.ty]
    return s.writeBack npc d (Config.cmpResult t b.val a.val) .u .keep

/-- CMPI, fmt24drn (40_addsub.md R164): the immediate in the place of S. -/
def execCmpi (d : RegNum) (r : RegNum) (n : Imm5) (s : State) : Out := 
  let npc := s.npc (3 + n.extLen)
  let a := s.rd npc r
  outcome do
    s.checkReads [r]
    let t ← typeCheck a.ty []
    return s.writeBack npc d (Config.cmpResult t (immVal n (ctxOf t)) a.val) .u .keep

end Sys2Proof.Machine
end

