-- ==== Sys2Proof/Machine/Boolean.lean ====
section
/-! DEFINITION. The generic Boolean family (41_boolean.md). -/

namespace Sys2Proof.Machine

/-! ## Shared operations -/

/-- Two register operands, types ignored, result of type U (41_boolean.md R170). -/
def bool2 (f : Word → Word → Word) (d r rs : RegNum) (s : State) : Out :=
  let npc := s.npc 3
  outcome do
    s.checkReads [r, rs]
    return s.writeBack npc d (f (s.rd npc r).val (s.rd npc rs).val) .u .keep

/-- The same with an immediate, read in context U (41_boolean.md R170 c). -/
def bool2I (f : Word → Word → Word) (d r : RegNum) (n : Imm5) (s : State) : Out :=
  let npc := s.npc (3 + n.extLen)
  outcome do
    s.checkReads [r]
    return s.writeBack npc d (f (s.rd npc r).val (immVal n .unsigned)) .u .keep

/-- Three register operands with the complements of R and T; `u` leaves R28 without a value (41_boolean.md R183). -/
def bool3 (f : Word → Word → Word → Word) (d r rs rt : RegNum) (zz : BitVec 2) (u : Bool) (s : State) : Out :=
  let npc := s.npc 4
  outcome do
    s.checkReads [r, rs, rt]
    return s.writeBack npc d
      (f (complIf (zR zz) (s.rd npc r).val) (s.rd npc rs).val (complIf (zT zz) (s.rd npc rt).val)) .u (unstatedIf u)

/-- The same with an immediate in the place of S. -/
def bool3I (f : Word → Word → Word → Word) (d r : RegNum) (n : Imm5) (rt : RegNum) (zz : BitVec 2) (u : Bool)
    (s : State) : Out :=
  let npc := s.npc (4 + n.extLen)
  outcome do
    s.checkReads [r, rt]
    return s.writeBack npc d
      (f (complIf (zR zz) (s.rd npc r).val) (immVal n .unsigned) (complIf (zT zz) (s.rd npc rt).val)) .u (unstatedIf u)

/-! ## The instructions -/

/-- AND, fmt24drs (41_boolean.md R171). -/
def execAnd (d : RegNum) (r : RegNum) (rs : RegNum) (s : State) : Out := bool2 (fun a b => a &&& b) d r rs s

/-- ANDI, fmt24drn (41_boolean.md R172). -/
def execAndi (d : RegNum) (r : RegNum) (n : Imm5) (s : State) : Out := bool2I (fun a b => a &&& b) d r n s

/-- AND3, fmt32drst (41_boolean.md R177). -/
def execAnd3 (d : RegNum) (r : RegNum) (rs : RegNum) (rt : RegNum) (zz : BitVec 2) (u : Bool) (s : State) : Out := bool3 (fun a b c => a &&& b &&& c) d r rs rt zz u s

/-- AND3I, fmt32drnt (41_boolean.md R178). -/
def execAnd3i (d : RegNum) (r : RegNum) (n : Imm5) (rt : RegNum) (zz : BitVec 2) (u : Bool) (s : State) : Out := bool3I (fun a b c => a &&& b &&& c) d r n rt zz u s

/-- OR, fmt24drs (41_boolean.md R173). -/
def execOr (d : RegNum) (r : RegNum) (rs : RegNum) (s : State) : Out := bool2 (fun a b => a ||| b) d r rs s

/-- ORI, fmt24drn (41_boolean.md R174). -/
def execOri (d : RegNum) (r : RegNum) (n : Imm5) (s : State) : Out := bool2I (fun a b => a ||| b) d r n s

/-- OR3, fmt32drst (41_boolean.md R179). -/
def execOr3 (d : RegNum) (r : RegNum) (rs : RegNum) (rt : RegNum) (zz : BitVec 2) (u : Bool) (s : State) : Out := bool3 (fun a b c => a ||| b ||| c) d r rs rt zz u s

/-- OR3I, fmt32drnt (41_boolean.md R180). -/
def execOr3i (d : RegNum) (r : RegNum) (n : Imm5) (rt : RegNum) (zz : BitVec 2) (u : Bool) (s : State) : Out := bool3I (fun a b c => a ||| b ||| c) d r n rt zz u s

/-- XOR, fmt24drs (41_boolean.md R175). -/
def execXor (d : RegNum) (r : RegNum) (rs : RegNum) (s : State) : Out := bool2 (fun a b => a ^^^ b) d r rs s

/-- XORI, fmt24drn (41_boolean.md R176). -/
def execXori (d : RegNum) (r : RegNum) (n : Imm5) (s : State) : Out := bool2I (fun a b => a ^^^ b) d r n s

/-- XOR3, fmt32drst (41_boolean.md R181). -/
def execXor3 (d : RegNum) (r : RegNum) (rs : RegNum) (rt : RegNum) (zz : BitVec 2) (u : Bool) (s : State) : Out := bool3 (fun a b c => a ^^^ b ^^^ c) d r rs rt zz u s

/-- XOR3I, fmt32drnt (41_boolean.md R182). -/
def execXor3i (d : RegNum) (r : RegNum) (n : Imm5) (rt : RegNum) (zz : BitVec 2) (u : Bool) (s : State) : Out := bool3I (fun a b c => a ^^^ b ^^^ c) d r n rt zz u s

end Sys2Proof.Machine
end

