-- ==== Sys2Proof/Machine/Control.lean ====
section
/-! DEFINITION. The control family (45_control.md). -/

namespace Sys2Proof.Machine

/-! ## Shared operations -/

/-- A conditional branch (45_control.md R267): `d` names the register tested. -/
def condBranch (c : Cond) (npc : Word) (d : RegNum) (disp : Word) (s : State) : Out :=
  let x := s.rd npc d
  outcome do
    s.checkReads [d]
    refuseFloaty [x.ty]
    return { s with pc := if c.holds x.val x.ty then npc + disp else npc }

/-- The register BBS and BBC test and the bit number, of their fields `d` and `r`: the open parameter `bbs_roles`
(45_control.md R266, entry 11). -/
def bbsFields (d r : RegNum) : RegNum × RegNum :=
  match Config.bbsRoles with
  | .regDBitR => (d, r)
  | .regRBitD => (r, d)

/-- BBS and BBC (45_control.md R266): branch when the bit tested is `i`. Only the register tested is read. -/
def bitBranch (i : Bool) (d r : RegNum) (n : Imm5) (s : State) : Out :=
  let npc := s.npc (3 + n.extLen)
  let reg := (bbsFields d r).1
  let bit := (bbsFields d r).2
  outcome do
    s.checkReads [reg]
    return { s with pc := if (s.rd npc reg).val.getLsbD bit.val == i then npc + immVal n .disp else npc }

/-- CALL (45_control.md R272): the return address goes to D unless D is R31, the target was computed before. -/
def callTo (npc : Word) (d : RegNum) (ea : Word) (s : State) : State :=
  { (if d = 31 then s else s.setReg d { val := npc, ty := .u }) with pc := ea }

/-- NXTH and NXTW (45_control.md R262, R263): the smallest multiple of `k` greater than the instruction's address. -/
def alignTo (k : Nat) (s : State) : Out :=
  outcome do
    faultIf (2 ^ 32 ≤ (s.pc.toNat / k + 1) * k) .fetchWrap
    return { s with pc := BitVec.ofNat 32 ((s.pc.toNat / k + 1) * k) }

/-! ## The instructions -/

/-- TRAP, fmt8 (45_control.md R261). -/
def execTrap (_s : State) : Out := takeTrap .illegalInstruction

/-- BRK, fmt8 (45_control.md R264). -/
def execBrk (_s : State) : Out := takeTrap .breakpoint

/-- NXTH, fmt8 (45_control.md R262). -/
def execNxth (s : State) : Out := alignTo 2 s

/-- NXTW, fmt8 (45_control.md R263). -/
def execNxtw (s : State) : Out := alignTo 4 s

/-- BR, fmt24n and fmt32n (45_control.md R265). -/
def execBr (n : Disp) (s : State) : Out := .next { s with pc := s.npc n.length + dispVal n }

/-- CALLR, fmt24n and fmt32n (45_control.md R270): return address to R0. -/
def execCallr (n : Disp) (s : State) : Out := .next { s.setReg 0 { val := s.npc n.length, ty := .u } with pc := s.npc n.length + dispVal n }

/-- CALL, fmt24dbj (45_control.md R272). -/
def execCallDbj (d : RegNum) (b : RegNum) (j : RegNum) (s : State) : Out := 
  let npc := s.npc 3
  outcome do
    s.checkReads [j]
    return callTo npc d (eaIndex s npc b j 1) s

/-- CALL, fmt24dbn (45_control.md R272). -/
def execCallDbn (d : RegNum) (b : RegNum) (n : Imm5) (s : State) : Out := 
  let npc := s.npc (3 + n.extLen)
  .next (callTo npc d (eaOffset s npc b n) s)

/-- CALL, fmt32dbjs (45_control.md R272). -/
def execCallDbjs (d : RegNum) (b : RegNum) (j : RegNum) (rs : RegNum) (y : BitVec 2) (u : Bool) (s : State) : Out := 
  let npc := s.npc 4
  outcome do
    checkLoadU u
    s.checkReads [rs, j]
    return callTo npc d (eaIndexReg s npc b j rs (scaleY y)) s

/-- CALL, fmt32dbjn (45_control.md R272). -/
def execCallDbjn (d : RegNum) (b : RegNum) (j : RegNum) (n : Imm5) (y : BitVec 2) (u : Bool) (s : State) : Out := 
  let npc := s.npc (4 + n.extLen)
  outcome do
    checkLoadU u
    s.checkReads [j]
    return callTo npc d (eaIndexImm s npc b j n (scaleY y)) s

/-- BRZ, fmt24dcn (45_control.md R267). -/
def execBrz24 (d : RegNum) (n : BitVec 8) (s : State) : Out := condBranch .z (s.npc 3) d (n.signExtend 32) s

/-- BRGZ, fmt24dcn (45_control.md R267). -/
def execBrgz24 (d : RegNum) (n : BitVec 8) (s : State) : Out := condBranch .gz (s.npc 3) d (n.signExtend 32) s

/-- BRGEZ, fmt24dcn (45_control.md R267). -/
def execBrgez24 (d : RegNum) (n : BitVec 8) (s : State) : Out := condBranch .gez (s.npc 3) d (n.signExtend 32) s

/-- BREV, fmt24dcn (45_control.md R267). -/
def execBrev24 (d : RegNum) (n : BitVec 8) (s : State) : Out := condBranch .ev (s.npc 3) d (n.signExtend 32) s

/-- BRNZ, fmt24dcn (45_control.md R267). -/
def execBrnz24 (d : RegNum) (n : BitVec 8) (s : State) : Out := condBranch .nz (s.npc 3) d (n.signExtend 32) s

/-- BRLEZ, fmt24dcn (45_control.md R267). -/
def execBrlez24 (d : RegNum) (n : BitVec 8) (s : State) : Out := condBranch .lez (s.npc 3) d (n.signExtend 32) s

/-- BRLZ, fmt24dcn (45_control.md R267). -/
def execBrlz24 (d : RegNum) (n : BitVec 8) (s : State) : Out := condBranch .lz (s.npc 3) d (n.signExtend 32) s

/-- BROD, fmt24dcn (45_control.md R267). -/
def execBrod24 (d : RegNum) (n : BitVec 8) (s : State) : Out := condBranch .od (s.npc 3) d (n.signExtend 32) s

/-- BRZ, fmt32dcn (45_control.md R267). -/
def execBrz32 (d : RegNum) (n : BitVec 16) (s : State) : Out := condBranch .z (s.npc 4) d (n.signExtend 32) s

/-- BRGZ, fmt32dcn (45_control.md R267). -/
def execBrgz32 (d : RegNum) (n : BitVec 16) (s : State) : Out := condBranch .gz (s.npc 4) d (n.signExtend 32) s

/-- BRGEZ, fmt32dcn (45_control.md R267). -/
def execBrgez32 (d : RegNum) (n : BitVec 16) (s : State) : Out := condBranch .gez (s.npc 4) d (n.signExtend 32) s

/-- BREV, fmt32dcn (45_control.md R267). -/
def execBrev32 (d : RegNum) (n : BitVec 16) (s : State) : Out := condBranch .ev (s.npc 4) d (n.signExtend 32) s

/-- BRNZ, fmt32dcn (45_control.md R267). -/
def execBrnz32 (d : RegNum) (n : BitVec 16) (s : State) : Out := condBranch .nz (s.npc 4) d (n.signExtend 32) s

/-- BRLEZ, fmt32dcn (45_control.md R267). -/
def execBrlez32 (d : RegNum) (n : BitVec 16) (s : State) : Out := condBranch .lez (s.npc 4) d (n.signExtend 32) s

/-- BRLZ, fmt32dcn (45_control.md R267). -/
def execBrlz32 (d : RegNum) (n : BitVec 16) (s : State) : Out := condBranch .lz (s.npc 4) d (n.signExtend 32) s

/-- BROD, fmt32dcn (45_control.md R267). -/
def execBrod32 (d : RegNum) (n : BitVec 16) (s : State) : Out := condBranch .od (s.npc 4) d (n.signExtend 32) s

/-- BBS, fmt24drn (45_control.md R266). -/
def execBbs (d : RegNum) (r : RegNum) (n : Imm5) (s : State) : Out := bitBranch true d r n s

/-- BBC, fmt24drn (45_control.md R266). -/
def execBbc (d : RegNum) (r : RegNum) (n : Imm5) (s : State) : Out := bitBranch false d r n s

/-- ENTER, fmt24drn (45_control.md R277): the spec gives no effect. -/
def execEnter (_f : BitVec 16) (_s : State) : Out := .refused .enter

/-- EXIT, fmt24drn (45_control.md R278): the spec gives no effect. -/
def execExit (_f : BitVec 16) (_s : State) : Out := .refused .exit

/-- LOOP, fmt24drs (45_control.md R276): the spec gives no effect. -/
def execLoop (_d : RegNum) (_r : RegNum) (_rs : RegNum) (_s : State) : Out := .refused .loop

/-- LOOPI, fmt24drn (45_control.md R276): the spec gives no effect. -/
def execLoopi (_d : RegNum) (_r : RegNum) (_f : BitVec 5) (_s : State) : Out := .refused .loop

/-- VECT, fmt24dn (45_control.md R280): the spec gives no effect. -/
def execVect (_d : RegNum) (_n : BitVec 11) (_s : State) : Out := .refused .vect

/-- PCB1, fmt32 (45_control.md R279): the spec gives no effect. -/
def execPcb1 (_f : BitVec 24) (_s : State) : Out := .refused .pcb1

/-- PCND, fmt32 (45_control.md R281): the spec gives no effect. -/
def execPcnd (_f : BitVec 24) (_s : State) : Out := .refused .pcnd

end Sys2Proof.Machine
end

