-- ==== Sys2Proof/Machine/Irregular.lean ====
section
/-! DEFINITION. The irregular family (46_irregular.md). -/

namespace Sys2Proof.Machine

/-! ## Shared operations -/

/-- Choose between R and S by type (46_irregular.md R290, R291). -/
def select2 (f : TyCode → Word → Word → Word) (d r rs : RegNum) (s : State) : Out :=
  let npc := s.npc 3
  let a := s.rd npc r
  let b := s.rd npc rs
  outcome do
    s.checkReads [r, rs]
    let t ← typeCheck a.ty [b.ty]
    return s.writeBack npc d (f t a.val b.val) t .keep

/-- Choose between R and an immediate (46_irregular.md R292). -/
def select2I (f : TyCode → Word → Word → Word) (d r : RegNum) (n : Imm5) (s : State) : Out :=
  let npc := s.npc (3 + n.extLen)
  let a := s.rd npc r
  outcome do
    s.checkReads [r]
    let t ← typeCheck a.ty []
    return s.writeBack npc d (f t a.val (immVal n (ctxOf t))) t .keep

/-- Choose among R, S and T (46_irregular.md R295). -/
def select3 (f : TyCode → Word → Word → Word → Word) (d r rs rt : RegNum) (zz : BitVec 2) (u : Bool) (s : State) : Out :=
  let npc := s.npc 4
  let a := s.rd npc r
  let b := s.rd npc rs
  let c := s.rd npc rt
  outcome do
    checkZZ zz
    s.checkReads [r, rs, rt]
    let t ← typeCheck a.ty [b.ty, c.ty]
    return s.writeBack npc d (f t a.val b.val c.val) t (unstatedIf u)

/-- Choose among R, an immediate and T (46_irregular.md R296). -/
def select3I (f : TyCode → Word → Word → Word → Word) (d r : RegNum) (n : Imm5) (rt : RegNum) (zz : BitVec 2) (u : Bool)
    (s : State) : Out :=
  let npc := s.npc (4 + n.extLen)
  let a := s.rd npc r
  let c := s.rd npc rt
  outcome do
    checkZZ zz
    s.checkReads [r, rt]
    let t ← typeCheck a.ty [c.ty]
    return s.writeBack npc d (f t a.val (immVal n (ctxOf t)) c.val) t (unstatedIf u)

/-! ## The instructions -/

/-- MAX, fmt24drs (46_irregular.md R291). -/
def execMax (d : RegNum) (r : RegNum) (rs : RegNum) (s : State) : Out := select2 maxBy d r rs s

/-- MAXI, fmt24drn (46_irregular.md R292). -/
def execMaxi (d : RegNum) (r : RegNum) (n : Imm5) (s : State) : Out := select2I maxBy d r n s

/-- MAX3, fmt32drst (46_irregular.md R295). -/
def execMax3 (d : RegNum) (r : RegNum) (rs : RegNum) (rt : RegNum) (zz : BitVec 2) (u : Bool) (s : State) : Out := select3 (fun t a b c => maxBy t (maxBy t a b) c) d r rs rt zz u s

/-- MAX3I, fmt32drnt (46_irregular.md R296). -/
def execMax3i (d : RegNum) (r : RegNum) (n : Imm5) (rt : RegNum) (zz : BitVec 2) (u : Bool) (s : State) : Out := select3I (fun t a b c => maxBy t (maxBy t a b) c) d r n rt zz u s

/-- MIN, fmt24drs (46_irregular.md R293). -/
def execMin (d : RegNum) (r : RegNum) (rs : RegNum) (s : State) : Out := select2 minBy d r rs s

/-- MINI, fmt24drn (46_irregular.md R294). -/
def execMini (d : RegNum) (r : RegNum) (n : Imm5) (s : State) : Out := select2I minBy d r n s

/-- MIN3, fmt32drst (46_irregular.md R297). -/
def execMin3 (d : RegNum) (r : RegNum) (rs : RegNum) (rt : RegNum) (zz : BitVec 2) (u : Bool) (s : State) : Out := select3 (fun t a b c => minBy t (minBy t a b) c) d r rs rt zz u s

/-- MIN3I, fmt32drnt (46_irregular.md R298). -/
def execMin3i (d : RegNum) (r : RegNum) (n : Imm5) (rt : RegNum) (zz : BitVec 2) (u : Bool) (s : State) : Out := select3I (fun t a b c => minBy t (minBy t a b) c) d r n rt zz u s

/-- MEDIAN3, fmt32drst (46_irregular.md R299). -/
def execMedian3 (d : RegNum) (r : RegNum) (rs : RegNum) (rt : RegNum) (zz : BitVec 2) (u : Bool) (s : State) : Out := select3 medianBy d r rs rt zz u s

/-- MEDIAN3, fmt32drnt (46_irregular.md R299). -/
def execMedian3I (d : RegNum) (r : RegNum) (n : Imm5) (rt : RegNum) (zz : BitVec 2) (u : Bool) (s : State) : Out := select3I medianBy d r n rt zz u s

/-- INTP, fmt32drst, fmt32drnt (46_irregular.md R300): the spec gives no effect. -/
def execIntp (_f : BitVec 24) (_s : State) : Out := .refused .intp

/-- LUT, fmt32drst, fmt32drnt (46_irregular.md R301): the spec gives no effect. -/
def execLut (_f : BitVec 24) (_s : State) : Out := .refused .lut

/-- LDM, fmt32drst, fmt32drnt (46_irregular.md R303): the spec gives no effect. -/
def execLdm (_f : BitVec 24) (_s : State) : Out := .refused .ldm

/-- STM, fmt32drst, fmt32drnt (46_irregular.md R304): the spec gives no effect. -/
def execStm (_f : BitVec 24) (_s : State) : Out := .refused .stm

/-- MMOV, fmt32 (46_irregular.md R302): the spec gives no effect. -/
def execMmov (_f : BitVec 24) (_s : State) : Out := .refused .mmov

/-- TT, fmt32 (46_irregular.md R305): the spec gives no effect. -/
def execTt (_f : BitVec 24) (_s : State) : Out := .refused .tt

/-- EADD, fmt32drst, fmt32drnt (46_irregular.md R306): the source gives it no opcode. -/
def execEadd (_s : State) : Out := .refused .noOpcode

/-- MV2, fmt32 (46_irregular.md R307): the source gives it no opcode. -/
def execMv2 (_s : State) : Out := .refused .noOpcode

/-- SHL, fmt32drsc, fmt32drnc (46_irregular.md R308): the source gives it no opcode. -/
def execShl (_s : State) : Out := .refused .noOpcode

end Sys2Proof.Machine
end

