-- ==== Sys2Proof/Machine/LoadStore.lean ====
section
/-! DEFINITION. The load and store family (44_loadstore.md). -/

namespace Sys2Proof.Machine

/-! ## Shared operations -/

/-- The load procedure (44_loadstore.md R231): `ds` bytes at `ea`, lengthened by the type the mnemonic names. -/
def load (t : TyCode) (ds : Nat) (npc : Word) (d : RegNum) (ea : Word) (s : State) : Res State := do
  let v ← memRead s.mem ea ds
  return s.writeBack npc d (lengthen t (BitVec.ofNat (8 * ds) v)) t .keep

/-- The store procedure (44_loadstore.md R400): the low `ds` bytes of `v` at `ea`. -/
def store (ds : Nat) (npc : Word) (ea v : Word) (s : State) : Res State := do
  let m ← memWrite s.mem ea ds v
  return { s with mem := m, pc := npc }

/-- A 24-bit load, base and scaled index. -/
def loadDbj (t : TyCode) (ds : Nat) (d b j : RegNum) (s : State) : Out :=
  let npc := s.npc 3
  outcome do
    s.checkReads [j]
    load t ds npc d (eaIndex s npc b j ds) s

/-- A 24-bit load, base and offset. -/
def loadDbn (t : TyCode) (ds : Nat) (d b : RegNum) (n : Imm5) (s : State) : Out :=
  let npc := s.npc (3 + n.extLen)
  outcome (load t ds npc d (eaOffset s npc b n) s)

/-- A 32-bit load, base, scaled index and register offset. -/
def loadDbjs (t : TyCode) (ds : Nat) (d b j rs : RegNum) (y : BitVec 2) (u : Bool) (s : State) : Out :=
  let npc := s.npc 4
  outcome do
    checkLoadU u
    s.checkReads [rs, j]
    load t ds npc d (eaIndexReg s npc b j rs (scaleY y * ds)) s

/-- A 32-bit load, base, scaled index and immediate offset. -/
def loadDbjn (t : TyCode) (ds : Nat) (d b j : RegNum) (n : Imm5) (y : BitVec 2) (u : Bool) (s : State) : Out :=
  let npc := s.npc (4 + n.extLen)
  outcome do
    checkLoadU u
    s.checkReads [j]
    load t ds npc d (eaIndexImm s npc b j n (scaleY y * ds)) s

/-- A 24-bit store, base and scaled index. -/
def storeDbj (ds : Nat) (d b j : RegNum) (s : State) : Out :=
  let npc := s.npc 3
  outcome do
    s.checkReads [d, j]
    store ds npc (eaIndex s npc b j ds) (s.rd npc d).val s

/-- A 24-bit store, base and offset. -/
def storeDbn (ds : Nat) (d b : RegNum) (n : Imm5) (s : State) : Out :=
  let npc := s.npc (3 + n.extLen)
  outcome do
    s.checkReads [d]
    store ds npc (eaOffset s npc b n) (s.rd npc d).val s

/-- A 32-bit register store, base, scaled index and register offset. -/
def storeDbjs (ds : Nat) (d b j rs : RegNum) (y : BitVec 2) (s : State) : Out :=
  let npc := s.npc 4
  outcome do
    s.checkReads [rs, d, j]
    store ds npc (eaIndexReg s npc b j rs (scaleY y * ds)) (s.rd npc d).val s

/-- A 32-bit register store, base, scaled index and immediate offset. -/
def storeDbjn (ds : Nat) (d b j : RegNum) (n : Imm5) (y : BitVec 2) (s : State) : Out :=
  let npc := s.npc (4 + n.extLen)
  outcome do
    s.checkReads [d, j]
    store ds npc (eaIndexImm s npc b j n (scaleY y * ds)) (s.rd npc d).val s

/-- A store immediate, base, scaled index and register offset; the value is in displacement context. -/
def storeMbjs (ds : Nat) (m : Imm5) (b j rs : RegNum) (y : BitVec 2) (s : State) : Out :=
  let npc := s.npc (4 + m.extLen)
  outcome do
    s.checkReads [rs, j]
    store ds npc (eaIndexReg s npc b j rs (scaleY y * ds)) (immVal m .disp) s

/-- A store immediate, base, scaled index and immediate offset. -/
def storeMbjn (ds : Nat) (m : Imm5) (b j : RegNum) (n : Imm5) (y : BitVec 2) (s : State) : Out :=
  let npc := s.npc (4 + n.extLen + m.extLen)
  outcome do
    s.checkReads [j]
    store ds npc (eaIndexImm s npc b j n (scaleY y * ds)) (immVal m .disp) s

/-- LEA with a register offset (44_loadstore.md R252): no memory access, result of type U. -/
def leaDbjs (ds : Nat) (d b j rs : RegNum) (y : BitVec 2) (u : Bool) (s : State) : Out :=
  let npc := s.npc 4
  outcome do
    checkLoadU u
    s.checkReads [rs, j]
    return s.writeBack npc d (eaIndexReg s npc b j rs (scaleY y * ds)) .u .keep

/-- LEA with an immediate offset (44_loadstore.md R252). -/
def leaDbjn (ds : Nat) (d b j : RegNum) (n : Imm5) (y : BitVec 2) (u : Bool) (s : State) : Out :=
  let npc := s.npc (4 + n.extLen)
  outcome do
    checkLoadU u
    s.checkReads [j]
    return s.writeBack npc d (eaIndexImm s npc b j n (scaleY y * ds)) .u .keep

/-- Load typed immediate (44_loadstore.md R248): `len` is the length of the instruction. -/
def loadImm {w : Nat} (len : Nat) (d : RegNum) (a : TyCode) (n : BitVec w) (s : State) : Out :=
  .next (s.writeBack (s.npc len) d (lengthen a n) a .keep)

/-! ## The instructions -/

/-- LDU8, fmt24dbj (44_loadstore.md R232). -/
def execLdu8Dbj (d : RegNum) (b : RegNum) (j : RegNum) (s : State) : Out := loadDbj .u 1 d b j s

/-- LDU8, fmt24dbn (44_loadstore.md R232). -/
def execLdu8Dbn (d : RegNum) (b : RegNum) (n : Imm5) (s : State) : Out := loadDbn .u 1 d b n s

/-- LDU8, fmt32dbjs (44_loadstore.md R232). -/
def execLdu8Dbjs (d : RegNum) (b : RegNum) (j : RegNum) (rs : RegNum) (y : BitVec 2) (u : Bool) (s : State) : Out := loadDbjs .u 1 d b j rs y u s

/-- LDU8, fmt32dbjn (44_loadstore.md R232). -/
def execLdu8Dbjn (d : RegNum) (b : RegNum) (j : RegNum) (n : Imm5) (y : BitVec 2) (u : Bool) (s : State) : Out := loadDbjn .u 1 d b j n y u s

/-- LDU16, fmt24dbj (44_loadstore.md R233). -/
def execLdu16Dbj (d : RegNum) (b : RegNum) (j : RegNum) (s : State) : Out := loadDbj .u 2 d b j s

/-- LDU16, fmt24dbn (44_loadstore.md R233). -/
def execLdu16Dbn (d : RegNum) (b : RegNum) (n : Imm5) (s : State) : Out := loadDbn .u 2 d b n s

/-- LDU16, fmt32dbjs (44_loadstore.md R233). -/
def execLdu16Dbjs (d : RegNum) (b : RegNum) (j : RegNum) (rs : RegNum) (y : BitVec 2) (u : Bool) (s : State) : Out := loadDbjs .u 2 d b j rs y u s

/-- LDU16, fmt32dbjn (44_loadstore.md R233). -/
def execLdu16Dbjn (d : RegNum) (b : RegNum) (j : RegNum) (n : Imm5) (y : BitVec 2) (u : Bool) (s : State) : Out := loadDbjn .u 2 d b j n y u s

/-- LDU24, fmt24dbj (44_loadstore.md R234). -/
def execLdu24Dbj (d : RegNum) (b : RegNum) (j : RegNum) (s : State) : Out := loadDbj .u 3 d b j s

/-- LDU24, fmt24dbn (44_loadstore.md R234). -/
def execLdu24Dbn (d : RegNum) (b : RegNum) (n : Imm5) (s : State) : Out := loadDbn .u 3 d b n s

/-- LDU24, fmt32dbjs (44_loadstore.md R234). -/
def execLdu24Dbjs (d : RegNum) (b : RegNum) (j : RegNum) (rs : RegNum) (y : BitVec 2) (u : Bool) (s : State) : Out := loadDbjs .u 3 d b j rs y u s

/-- LDU24, fmt32dbjn (44_loadstore.md R234). -/
def execLdu24Dbjn (d : RegNum) (b : RegNum) (j : RegNum) (n : Imm5) (y : BitVec 2) (u : Bool) (s : State) : Out := loadDbjn .u 3 d b j n y u s

/-- LDU32, fmt24dbj (44_loadstore.md R235). -/
def execLdu32Dbj (d : RegNum) (b : RegNum) (j : RegNum) (s : State) : Out := loadDbj .u 4 d b j s

/-- LDU32, fmt24dbn (44_loadstore.md R235). -/
def execLdu32Dbn (d : RegNum) (b : RegNum) (n : Imm5) (s : State) : Out := loadDbn .u 4 d b n s

/-- LDU32, fmt32dbjs (44_loadstore.md R235). -/
def execLdu32Dbjs (d : RegNum) (b : RegNum) (j : RegNum) (rs : RegNum) (y : BitVec 2) (u : Bool) (s : State) : Out := loadDbjs .u 4 d b j rs y u s

/-- LDU32, fmt32dbjn (44_loadstore.md R235). -/
def execLdu32Dbjn (d : RegNum) (b : RegNum) (j : RegNum) (n : Imm5) (y : BitVec 2) (u : Bool) (s : State) : Out := loadDbjn .u 4 d b j n y u s

/-- LD8, fmt24dbj (44_loadstore.md R236). -/
def execLd8Dbj (d : RegNum) (b : RegNum) (j : RegNum) (s : State) : Out := loadDbj .s 1 d b j s

/-- LD8, fmt24dbn (44_loadstore.md R236). -/
def execLd8Dbn (d : RegNum) (b : RegNum) (n : Imm5) (s : State) : Out := loadDbn .s 1 d b n s

/-- LD8, fmt32dbjs (44_loadstore.md R236). -/
def execLd8Dbjs (d : RegNum) (b : RegNum) (j : RegNum) (rs : RegNum) (y : BitVec 2) (u : Bool) (s : State) : Out := loadDbjs .s 1 d b j rs y u s

/-- LD8, fmt32dbjn (44_loadstore.md R236). -/
def execLd8Dbjn (d : RegNum) (b : RegNum) (j : RegNum) (n : Imm5) (y : BitVec 2) (u : Bool) (s : State) : Out := loadDbjn .s 1 d b j n y u s

/-- LD16, fmt24dbj (44_loadstore.md R237). -/
def execLd16Dbj (d : RegNum) (b : RegNum) (j : RegNum) (s : State) : Out := loadDbj .s 2 d b j s

/-- LD16, fmt24dbn (44_loadstore.md R237). -/
def execLd16Dbn (d : RegNum) (b : RegNum) (n : Imm5) (s : State) : Out := loadDbn .s 2 d b n s

/-- LD16, fmt32dbjs (44_loadstore.md R237). -/
def execLd16Dbjs (d : RegNum) (b : RegNum) (j : RegNum) (rs : RegNum) (y : BitVec 2) (u : Bool) (s : State) : Out := loadDbjs .s 2 d b j rs y u s

/-- LD16, fmt32dbjn (44_loadstore.md R237). -/
def execLd16Dbjn (d : RegNum) (b : RegNum) (j : RegNum) (n : Imm5) (y : BitVec 2) (u : Bool) (s : State) : Out := loadDbjn .s 2 d b j n y u s

/-- LD24, fmt24dbj (44_loadstore.md R238). -/
def execLd24Dbj (d : RegNum) (b : RegNum) (j : RegNum) (s : State) : Out := loadDbj .s 3 d b j s

/-- LD24, fmt24dbn (44_loadstore.md R238). -/
def execLd24Dbn (d : RegNum) (b : RegNum) (n : Imm5) (s : State) : Out := loadDbn .s 3 d b n s

/-- LD24, fmt32dbjs (44_loadstore.md R238). -/
def execLd24Dbjs (d : RegNum) (b : RegNum) (j : RegNum) (rs : RegNum) (y : BitVec 2) (u : Bool) (s : State) : Out := loadDbjs .s 3 d b j rs y u s

/-- LD24, fmt32dbjn (44_loadstore.md R238). -/
def execLd24Dbjn (d : RegNum) (b : RegNum) (j : RegNum) (n : Imm5) (y : BitVec 2) (u : Bool) (s : State) : Out := loadDbjn .s 3 d b j n y u s

/-- LD32, fmt24dbj (44_loadstore.md R239). -/
def execLd32Dbj (d : RegNum) (b : RegNum) (j : RegNum) (s : State) : Out := loadDbj .s 4 d b j s

/-- LD32, fmt24dbn (44_loadstore.md R239). -/
def execLd32Dbn (d : RegNum) (b : RegNum) (n : Imm5) (s : State) : Out := loadDbn .s 4 d b n s

/-- LD32, fmt32dbjs (44_loadstore.md R239). -/
def execLd32Dbjs (d : RegNum) (b : RegNum) (j : RegNum) (rs : RegNum) (y : BitVec 2) (u : Bool) (s : State) : Out := loadDbjs .s 4 d b j rs y u s

/-- LD32, fmt32dbjn (44_loadstore.md R239). -/
def execLd32Dbjn (d : RegNum) (b : RegNum) (j : RegNum) (n : Imm5) (y : BitVec 2) (u : Bool) (s : State) : Out := loadDbjn .s 4 d b j n y u s

/-- FLD8, fmt24dbj (44_loadstore.md R240). -/
def execFld8Dbj (d : RegNum) (b : RegNum) (j : RegNum) (s : State) : Out := loadDbj .f 1 d b j s

/-- FLD8, fmt24dbn (44_loadstore.md R240). -/
def execFld8Dbn (d : RegNum) (b : RegNum) (n : Imm5) (s : State) : Out := loadDbn .f 1 d b n s

/-- FLD8, fmt32dbjs (44_loadstore.md R240). -/
def execFld8Dbjs (d : RegNum) (b : RegNum) (j : RegNum) (rs : RegNum) (y : BitVec 2) (u : Bool) (s : State) : Out := loadDbjs .f 1 d b j rs y u s

/-- FLD8, fmt32dbjn (44_loadstore.md R240). -/
def execFld8Dbjn (d : RegNum) (b : RegNum) (j : RegNum) (n : Imm5) (y : BitVec 2) (u : Bool) (s : State) : Out := loadDbjn .f 1 d b j n y u s

/-- FLD16, fmt24dbj (44_loadstore.md R241). -/
def execFld16Dbj (d : RegNum) (b : RegNum) (j : RegNum) (s : State) : Out := loadDbj .f 2 d b j s

/-- FLD16, fmt24dbn (44_loadstore.md R241). -/
def execFld16Dbn (d : RegNum) (b : RegNum) (n : Imm5) (s : State) : Out := loadDbn .f 2 d b n s

/-- FLD16, fmt32dbjs (44_loadstore.md R241). -/
def execFld16Dbjs (d : RegNum) (b : RegNum) (j : RegNum) (rs : RegNum) (y : BitVec 2) (u : Bool) (s : State) : Out := loadDbjs .f 2 d b j rs y u s

/-- FLD16, fmt32dbjn (44_loadstore.md R241). -/
def execFld16Dbjn (d : RegNum) (b : RegNum) (j : RegNum) (n : Imm5) (y : BitVec 2) (u : Bool) (s : State) : Out := loadDbjn .f 2 d b j n y u s

/-- FLD24, fmt24dbj (44_loadstore.md R242). -/
def execFld24Dbj (d : RegNum) (b : RegNum) (j : RegNum) (s : State) : Out := loadDbj .f 3 d b j s

/-- FLD24, fmt24dbn (44_loadstore.md R242). -/
def execFld24Dbn (d : RegNum) (b : RegNum) (n : Imm5) (s : State) : Out := loadDbn .f 3 d b n s

/-- FLD24, fmt32dbjs (44_loadstore.md R242). -/
def execFld24Dbjs (d : RegNum) (b : RegNum) (j : RegNum) (rs : RegNum) (y : BitVec 2) (u : Bool) (s : State) : Out := loadDbjs .f 3 d b j rs y u s

/-- FLD24, fmt32dbjn (44_loadstore.md R242). -/
def execFld24Dbjn (d : RegNum) (b : RegNum) (j : RegNum) (n : Imm5) (y : BitVec 2) (u : Bool) (s : State) : Out := loadDbjn .f 3 d b j n y u s

/-- FLD32, fmt24dbj (44_loadstore.md R243). -/
def execFld32Dbj (d : RegNum) (b : RegNum) (j : RegNum) (s : State) : Out := loadDbj .f 4 d b j s

/-- FLD32, fmt24dbn (44_loadstore.md R243). -/
def execFld32Dbn (d : RegNum) (b : RegNum) (n : Imm5) (s : State) : Out := loadDbn .f 4 d b n s

/-- FLD32, fmt32dbjs (44_loadstore.md R243). -/
def execFld32Dbjs (d : RegNum) (b : RegNum) (j : RegNum) (rs : RegNum) (y : BitVec 2) (u : Bool) (s : State) : Out := loadDbjs .f 4 d b j rs y u s

/-- FLD32, fmt32dbjn (44_loadstore.md R243). -/
def execFld32Dbjn (d : RegNum) (b : RegNum) (j : RegNum) (n : Imm5) (y : BitVec 2) (u : Bool) (s : State) : Out := loadDbjn .f 4 d b j n y u s

/-- PLD8, fmt24dbj (44_loadstore.md R244). -/
def execPld8Dbj (d : RegNum) (b : RegNum) (j : RegNum) (s : State) : Out := loadDbj .p 1 d b j s

/-- PLD8, fmt24dbn (44_loadstore.md R244). -/
def execPld8Dbn (d : RegNum) (b : RegNum) (n : Imm5) (s : State) : Out := loadDbn .p 1 d b n s

/-- PLD8, fmt32dbjs (44_loadstore.md R244). -/
def execPld8Dbjs (d : RegNum) (b : RegNum) (j : RegNum) (rs : RegNum) (y : BitVec 2) (u : Bool) (s : State) : Out := loadDbjs .p 1 d b j rs y u s

/-- PLD8, fmt32dbjn (44_loadstore.md R244). -/
def execPld8Dbjn (d : RegNum) (b : RegNum) (j : RegNum) (n : Imm5) (y : BitVec 2) (u : Bool) (s : State) : Out := loadDbjn .p 1 d b j n y u s

/-- PLD16, fmt24dbj (44_loadstore.md R245). -/
def execPld16Dbj (d : RegNum) (b : RegNum) (j : RegNum) (s : State) : Out := loadDbj .p 2 d b j s

/-- PLD16, fmt24dbn (44_loadstore.md R245). -/
def execPld16Dbn (d : RegNum) (b : RegNum) (n : Imm5) (s : State) : Out := loadDbn .p 2 d b n s

/-- PLD16, fmt32dbjs (44_loadstore.md R245). -/
def execPld16Dbjs (d : RegNum) (b : RegNum) (j : RegNum) (rs : RegNum) (y : BitVec 2) (u : Bool) (s : State) : Out := loadDbjs .p 2 d b j rs y u s

/-- PLD16, fmt32dbjn (44_loadstore.md R245). -/
def execPld16Dbjn (d : RegNum) (b : RegNum) (j : RegNum) (n : Imm5) (y : BitVec 2) (u : Bool) (s : State) : Out := loadDbjn .p 2 d b j n y u s

/-- PLD24, fmt24dbj (44_loadstore.md R246). -/
def execPld24Dbj (d : RegNum) (b : RegNum) (j : RegNum) (s : State) : Out := loadDbj .p 3 d b j s

/-- PLD24, fmt24dbn (44_loadstore.md R246). -/
def execPld24Dbn (d : RegNum) (b : RegNum) (n : Imm5) (s : State) : Out := loadDbn .p 3 d b n s

/-- PLD24, fmt32dbjs (44_loadstore.md R246). -/
def execPld24Dbjs (d : RegNum) (b : RegNum) (j : RegNum) (rs : RegNum) (y : BitVec 2) (u : Bool) (s : State) : Out := loadDbjs .p 3 d b j rs y u s

/-- PLD24, fmt32dbjn (44_loadstore.md R246). -/
def execPld24Dbjn (d : RegNum) (b : RegNum) (j : RegNum) (n : Imm5) (y : BitVec 2) (u : Bool) (s : State) : Out := loadDbjn .p 3 d b j n y u s

/-- PLD32, fmt24dbj (44_loadstore.md R247). -/
def execPld32Dbj (d : RegNum) (b : RegNum) (j : RegNum) (s : State) : Out := loadDbj .p 4 d b j s

/-- PLD32, fmt24dbn (44_loadstore.md R247). -/
def execPld32Dbn (d : RegNum) (b : RegNum) (n : Imm5) (s : State) : Out := loadDbn .p 4 d b n s

/-- PLD32, fmt32dbjs (44_loadstore.md R247). -/
def execPld32Dbjs (d : RegNum) (b : RegNum) (j : RegNum) (rs : RegNum) (y : BitVec 2) (u : Bool) (s : State) : Out := loadDbjs .p 4 d b j rs y u s

/-- PLD32, fmt32dbjn (44_loadstore.md R247). -/
def execPld32Dbjn (d : RegNum) (b : RegNum) (j : RegNum) (n : Imm5) (y : BitVec 2) (u : Bool) (s : State) : Out := loadDbjn .p 4 d b j n y u s

/-- LDI8, fmt24dan (44_loadstore.md R248). -/
def execLdi8 (d : RegNum) (a : TyCode) (n : BitVec 8) (s : State) : Out := loadImm 3 d a n s

/-- LDI16, fmt32dan (44_loadstore.md R249). -/
def execLdi16 (d : RegNum) (a : TyCode) (n : BitVec 16) (s : State) : Out := loadImm 4 d a n s

/-- LDI24, fmt40dan (44_loadstore.md R250). -/
def execLdi24 (d : RegNum) (a : TyCode) (n : BitVec 24) (s : State) : Out := loadImm 5 d a n s

/-- LDI32, fmt48dan (44_loadstore.md R251). -/
def execLdi32 (d : RegNum) (a : TyCode) (n : BitVec 32) (s : State) : Out := loadImm 6 d a n s

/-- LEA8, fmt32dbjs (44_loadstore.md R252). -/
def execLea8Dbjs (d : RegNum) (b : RegNum) (j : RegNum) (rs : RegNum) (y : BitVec 2) (u : Bool) (s : State) : Out := leaDbjs 1 d b j rs y u s

/-- LEA8, fmt32dbjn (44_loadstore.md R252). -/
def execLea8Dbjn (d : RegNum) (b : RegNum) (j : RegNum) (n : Imm5) (y : BitVec 2) (u : Bool) (s : State) : Out := leaDbjn 1 d b j n y u s

/-- LEA16, fmt32dbjs (44_loadstore.md R253). -/
def execLea16Dbjs (d : RegNum) (b : RegNum) (j : RegNum) (rs : RegNum) (y : BitVec 2) (u : Bool) (s : State) : Out := leaDbjs 2 d b j rs y u s

/-- LEA16, fmt32dbjn (44_loadstore.md R253). -/
def execLea16Dbjn (d : RegNum) (b : RegNum) (j : RegNum) (n : Imm5) (y : BitVec 2) (u : Bool) (s : State) : Out := leaDbjn 2 d b j n y u s

/-- LEA24, fmt32dbjs (44_loadstore.md R254). -/
def execLea24Dbjs (d : RegNum) (b : RegNum) (j : RegNum) (rs : RegNum) (y : BitVec 2) (u : Bool) (s : State) : Out := leaDbjs 3 d b j rs y u s

/-- LEA24, fmt32dbjn (44_loadstore.md R254). -/
def execLea24Dbjn (d : RegNum) (b : RegNum) (j : RegNum) (n : Imm5) (y : BitVec 2) (u : Bool) (s : State) : Out := leaDbjn 3 d b j n y u s

/-- LEA32, fmt32dbjs (44_loadstore.md R255). -/
def execLea32Dbjs (d : RegNum) (b : RegNum) (j : RegNum) (rs : RegNum) (y : BitVec 2) (u : Bool) (s : State) : Out := leaDbjs 4 d b j rs y u s

/-- LEA32, fmt32dbjn (44_loadstore.md R255). -/
def execLea32Dbjn (d : RegNum) (b : RegNum) (j : RegNum) (n : Imm5) (y : BitVec 2) (u : Bool) (s : State) : Out := leaDbjn 4 d b j n y u s

/-- ST8, fmt24dbj (44_loadstore.md R256). -/
def execSt8Dbj (d : RegNum) (b : RegNum) (j : RegNum) (s : State) : Out := storeDbj 1 d b j s

/-- ST8, fmt24dbn (44_loadstore.md R256). -/
def execSt8Dbn (d : RegNum) (b : RegNum) (n : Imm5) (s : State) : Out := storeDbn 1 d b n s

/-- ST8, fmt32dbjs (44_loadstore.md R256). -/
def execSt8Dbjs (d : RegNum) (b : RegNum) (j : RegNum) (rs : RegNum) (y : BitVec 2) (s : State) : Out := storeDbjs 1 d b j rs y s

/-- ST8, fmt32dbjn (44_loadstore.md R256). -/
def execSt8Dbjn (d : RegNum) (b : RegNum) (j : RegNum) (n : Imm5) (y : BitVec 2) (s : State) : Out := storeDbjn 1 d b j n y s

/-- ST8, fmt32mbjs (44_loadstore.md R256). -/
def execSt8Mbjs (m : Imm5) (b : RegNum) (j : RegNum) (rs : RegNum) (y : BitVec 2) (s : State) : Out := storeMbjs 1 m b j rs y s

/-- ST8, fmt32mbjn (44_loadstore.md R256). -/
def execSt8Mbjn (m : Imm5) (b : RegNum) (j : RegNum) (n : Imm5) (y : BitVec 2) (s : State) : Out := storeMbjn 1 m b j n y s

/-- ST16, fmt24dbj (44_loadstore.md R257). -/
def execSt16Dbj (d : RegNum) (b : RegNum) (j : RegNum) (s : State) : Out := storeDbj 2 d b j s

/-- ST16, fmt24dbn (44_loadstore.md R257). -/
def execSt16Dbn (d : RegNum) (b : RegNum) (n : Imm5) (s : State) : Out := storeDbn 2 d b n s

/-- ST16, fmt32dbjs (44_loadstore.md R257). -/
def execSt16Dbjs (d : RegNum) (b : RegNum) (j : RegNum) (rs : RegNum) (y : BitVec 2) (s : State) : Out := storeDbjs 2 d b j rs y s

/-- ST16, fmt32dbjn (44_loadstore.md R257). -/
def execSt16Dbjn (d : RegNum) (b : RegNum) (j : RegNum) (n : Imm5) (y : BitVec 2) (s : State) : Out := storeDbjn 2 d b j n y s

/-- ST16, fmt32mbjs (44_loadstore.md R257). -/
def execSt16Mbjs (m : Imm5) (b : RegNum) (j : RegNum) (rs : RegNum) (y : BitVec 2) (s : State) : Out := storeMbjs 2 m b j rs y s

/-- ST16, fmt32mbjn (44_loadstore.md R257). -/
def execSt16Mbjn (m : Imm5) (b : RegNum) (j : RegNum) (n : Imm5) (y : BitVec 2) (s : State) : Out := storeMbjn 2 m b j n y s

/-- ST24, fmt24dbj (44_loadstore.md R258). -/
def execSt24Dbj (d : RegNum) (b : RegNum) (j : RegNum) (s : State) : Out := storeDbj 3 d b j s

/-- ST24, fmt24dbn (44_loadstore.md R258). -/
def execSt24Dbn (d : RegNum) (b : RegNum) (n : Imm5) (s : State) : Out := storeDbn 3 d b n s

/-- ST24, fmt32dbjs (44_loadstore.md R258). -/
def execSt24Dbjs (d : RegNum) (b : RegNum) (j : RegNum) (rs : RegNum) (y : BitVec 2) (s : State) : Out := storeDbjs 3 d b j rs y s

/-- ST24, fmt32dbjn (44_loadstore.md R258). -/
def execSt24Dbjn (d : RegNum) (b : RegNum) (j : RegNum) (n : Imm5) (y : BitVec 2) (s : State) : Out := storeDbjn 3 d b j n y s

/-- ST24, fmt32mbjs (44_loadstore.md R258). -/
def execSt24Mbjs (m : Imm5) (b : RegNum) (j : RegNum) (rs : RegNum) (y : BitVec 2) (s : State) : Out := storeMbjs 3 m b j rs y s

/-- ST24, fmt32mbjn (44_loadstore.md R258). -/
def execSt24Mbjn (m : Imm5) (b : RegNum) (j : RegNum) (n : Imm5) (y : BitVec 2) (s : State) : Out := storeMbjn 3 m b j n y s

/-- ST32, fmt24dbj (44_loadstore.md R259). -/
def execSt32Dbj (d : RegNum) (b : RegNum) (j : RegNum) (s : State) : Out := storeDbj 4 d b j s

/-- ST32, fmt24dbn (44_loadstore.md R259). -/
def execSt32Dbn (d : RegNum) (b : RegNum) (n : Imm5) (s : State) : Out := storeDbn 4 d b n s

/-- ST32, fmt32dbjs (44_loadstore.md R259). -/
def execSt32Dbjs (d : RegNum) (b : RegNum) (j : RegNum) (rs : RegNum) (y : BitVec 2) (s : State) : Out := storeDbjs 4 d b j rs y s

/-- ST32, fmt32dbjn (44_loadstore.md R259). -/
def execSt32Dbjn (d : RegNum) (b : RegNum) (j : RegNum) (n : Imm5) (y : BitVec 2) (s : State) : Out := storeDbjn 4 d b j n y s

/-- ST32, fmt32mbjs (44_loadstore.md R259). -/
def execSt32Mbjs (m : Imm5) (b : RegNum) (j : RegNum) (rs : RegNum) (y : BitVec 2) (s : State) : Out := storeMbjs 4 m b j rs y s

/-- ST32, fmt32mbjn (44_loadstore.md R259). -/
def execSt32Mbjn (m : Imm5) (b : RegNum) (j : RegNum) (n : Imm5) (y : BitVec 2) (s : State) : Out := storeMbjn 4 m b j n y s

end Sys2Proof.Machine
end

