-- ==== Sys2Proof/Machine/MulDiv.lean ====
section
/-! DEFINITION. The generic MUL/DIV family (42_muldiv.md). -/

namespace Sys2Proof.Machine

/-! ## Shared operations -/

/-- Division of register R by register S (42_muldiv.md R190). -/
def divide2 (upd : Bool) (d r rs : RegNum) (s : State) : Out :=
  let npc := s.npc 3
  let a := s.rd npc r
  let b := s.rd npc rs
  outcome do
    s.checkReads [r, rs]
    let t ← typeCheck a.ty [b.ty]
    let (q, rem) ← divide t (valOf t a.val) (valOf t b.val)
    return s.writeBack npc d q t (residueIf upd rem)

/-- Division of register R by an immediate (42_muldiv.md R191). -/
def divide2I (upd : Bool) (d r : RegNum) (n : Imm5) (s : State) : Out :=
  let npc := s.npc (3 + n.extLen)
  let a := s.rd npc r
  outcome do
    s.checkReads [r]
    let t ← typeCheck a.ty []
    let (q, rem) ← divide t (valOf t a.val) (valOf t (immVal n (ctxOf t)))
    return s.writeBack npc d q t (residueIf upd rem)

/-! ## The instructions -/

/-- MUL, fmt24drs (42_muldiv.md R186). -/
def execMul (d : RegNum) (r : RegNum) (rs : RegNum) (s : State) : Out := arith2 (fun a b => a * b) true d r rs s

/-- MULI, fmt24drn (42_muldiv.md R187). -/
def execMuli (d : RegNum) (r : RegNum) (n : Imm5) (s : State) : Out := arith2I (fun a b => a * b) true d r n s

/-- MULNU, fmt24drs (42_muldiv.md R188). -/
def execMulnu (d : RegNum) (r : RegNum) (rs : RegNum) (s : State) : Out := arith2 (fun a b => a * b) false d r rs s

/-- MULNUI, fmt24drn (42_muldiv.md R189). -/
def execMulnui (d : RegNum) (r : RegNum) (n : Imm5) (s : State) : Out := arith2I (fun a b => a * b) false d r n s

/-- DIV, fmt24drs (42_muldiv.md R190). -/
def execDiv (d : RegNum) (r : RegNum) (rs : RegNum) (s : State) : Out := divide2 true d r rs s

/-- DIVI, fmt24drn (42_muldiv.md R191). -/
def execDivi (d : RegNum) (r : RegNum) (n : Imm5) (s : State) : Out := divide2I true d r n s

/-- DIVNU, fmt24drs (42_muldiv.md R192). -/
def execDivnu (d : RegNum) (r : RegNum) (rs : RegNum) (s : State) : Out := divide2 false d r rs s

/-- DIVNUI, fmt24drn (42_muldiv.md R193). -/
def execDivnui (d : RegNum) (r : RegNum) (n : Imm5) (s : State) : Out := divide2I false d r n s

/-- MAC, fmt32drst (42_muldiv.md R194). -/
def execMac (d : RegNum) (r : RegNum) (rs : RegNum) (rt : RegNum) (zz : BitVec 2) (u : Bool) (s : State) : Out := arith3 (fun a b c => a * b + c) d r rs rt zz u s

/-- MACI, fmt32drnt (42_muldiv.md R195). -/
def execMaci (d : RegNum) (r : RegNum) (n : Imm5) (rt : RegNum) (zz : BitVec 2) (u : Bool) (s : State) : Out := arith3I (fun a b c => a * b + c) d r n rt zz u s

/-- DDIV, fmt32drst (42_muldiv.md R196): the dividend is `{T, R}`. -/
def execDdiv (d : RegNum) (r : RegNum) (rs : RegNum) (rt : RegNum) (zz : BitVec 2) (u : Bool) (s : State) : Out := 
  let npc := s.npc 4
  let a := s.rd npc r
  let b := s.rd npc rs
  let c := s.rd npc rt
  outcome do
    checkZZ zz
    s.checkReads [r, rs, rt]
    let t ← typeCheck a.ty [b.ty, c.ty]
    let (q, rem) ← divide t (dividend t c.val a.val) (valOf t b.val)
    return s.writeBack npc d q t (residueIf u rem)

/-- DDIVI, fmt32drnt (42_muldiv.md R197). -/
def execDdivi (d : RegNum) (r : RegNum) (n : Imm5) (rt : RegNum) (zz : BitVec 2) (u : Bool) (s : State) : Out := 
  let npc := s.npc (4 + n.extLen)
  let a := s.rd npc r
  let c := s.rd npc rt
  outcome do
    checkZZ zz
    s.checkReads [r, rt]
    let t ← typeCheck a.ty [c.ty]
    let (q, rem) ← divide t (dividend t c.val a.val) (valOf t (immVal n (ctxOf t)))
    return s.writeBack npc d q t (residueIf u rem)

end Sys2Proof.Machine
end

