-- ==== Sys2Proof/Machine/Shift.lean ====
section
/-! DEFINITION. The generic shift, extract and insert family (43_shift_bitfield.md). -/

namespace Sys2Proof.Machine

/-! ## Shared operations: `check` is the range check of the count, `f` the shift -/

/-- A shift of R by register S (43_shift_bitfield.md R200, R202). -/
def shift1 (check : Int → Res Unit) (f : Word → Int → Word) (d r rs : RegNum) (s : State) : Out :=
  let npc := s.npc 3
  let a := s.rd npc r
  let k := (s.rd npc rs).val.toInt
  outcome do
    s.checkReads [r, rs]
    refuseFloaty [a.ty]
    check k
    return s.writeBack npc d (f a.val k) a.ty .keep

/-- A shift of R by an immediate (43_shift_bitfield.md R203). -/
def shift1I (check : Int → Res Unit) (f : Word → Int → Word) (d r : RegNum) (n : Imm5) (s : State) : Out :=
  let npc := s.npc (3 + n.extLen)
  let a := s.rd npc r
  let k := (immVal n .disp).toInt
  outcome do
    checkShiftImm n
    s.checkReads [r]
    refuseFloaty [a.ty]
    check k
    return s.writeBack npc d (f a.val k) a.ty .keep

/-- A shift of `{T, R}` by register S; the low 32 bits go to D (43_shift_bitfield.md R208, R209). -/
def shift2 (check : Int → Res Unit) (f : BitVec 64 → Int → BitVec 64) (d r rs rt : RegNum) (zz : BitVec 2) (u : Bool)
    (s : State) : Out :=
  let npc := s.npc 4
  let a := s.rd npc r
  let c := s.rd npc rt
  let k := (s.rd npc rs).val.toInt
  outcome do
    checkZZ zz
    s.checkReads [r, rs, rt]
    refuseFloaty [a.ty, c.ty]
    check k
    return s.writeBack npc d ((f (pair c.val a.val) k).setWidth 32) a.ty (unstatedIf u)

/-- A shift of `{T, R}` by an immediate (43_shift_bitfield.md R210). -/
def shift2I (check : Int → Res Unit) (f : BitVec 64 → Int → BitVec 64) (d r : RegNum) (n : Imm5) (rt : RegNum)
    (zz : BitVec 2) (u : Bool) (s : State) : Out :=
  let npc := s.npc (4 + n.extLen)
  let a := s.rd npc r
  let c := s.rd npc rt
  let k := (immVal n .disp).toInt
  outcome do
    checkZZ zz
    checkShiftImm n
    s.checkReads [r, rt]
    refuseFloaty [a.ty, c.ty]
    check k
    return s.writeBack npc d ((f (pair c.val a.val) k).setWidth 32) a.ty (unstatedIf u)

/-- The rotates accept every count (43_shift_bitfield.md R201). -/
def anyCount (_k : Int) : Res Unit := .ok ()

/-- EXTRCT from R with the descriptor given, `reads` the registers read (43_shift_bitfield.md R215). -/
def extract1 (npc : Word) (d r : RegNum) (reads : List RegNum) (fo : Word) (s : State) : Out :=
  let a := s.rd npc r
  outcome do
    s.checkReads reads
    refuseFloaty [a.ty]
    let (loc, len) ← locLen fo
    refuseIf (len = 0 ∨ 32 < loc + len) .bitFieldRange
    return s.writeBack npc d (extractField a.ty a.val loc len) a.ty .keep

/-- EXTRCT from `{T, R}` with the descriptor given, `reads` the registers read (43_shift_bitfield.md R217). -/
def extract2 (npc : Word) (d r rt : RegNum) (reads : List RegNum) (fo : Word) (zz : BitVec 2) (u : Bool) (s : State) : Out :=
  let a := s.rd npc r
  let c := s.rd npc rt
  outcome do
    checkZZ zz
    s.checkReads reads
    refuseFloaty [a.ty, c.ty]
    let (loc, len) ← locLen fo
    refuseIf (len = 0 ∨ 32 < len ∨ 64 < loc + len) .bitFieldRange
    return s.writeBack npc d (extractField a.ty (pair c.val a.val) loc len) a.ty (unstatedIf u)

/-- INSRT with the descriptor given, `reads` the registers read; the roles of R and T are the open parameter `insrt_roles`
(43_shift_bitfield.md R219, entry 10). -/
def insert2 (npc : Word) (d r rt : RegNum) (reads : List RegNum) (fo : Word) (zz : BitVec 2) (u : Bool) (s : State) : Out :=
  let a := s.rd npc r
  let c := s.rd npc rt
  outcome do
    checkZZ zz
    s.checkReads reads
    refuseFloaty [a.ty, c.ty]
    let (loc, len) ← locLen fo
    refuseIf (len = 0 ∨ 32 < loc + len) .bitFieldRange
    return s.writeBack npc d
      (match Config.insrtRoles with
        | .rIntoT => insertField c.val a.val loc len
        | .tIntoR => insertField a.val c.val loc len) a.ty (unstatedIf u)

/-! ## The instructions -/

/-- LSR, fmt24drs (43_shift_bitfield.md R202). -/
def execLsr (d : RegNum) (r : RegNum) (rs : RegNum) (s : State) : Out := shift1 (checkCount 32) lsrBy d r rs s

/-- LSRI, fmt24drn (43_shift_bitfield.md R203). -/
def execLsri (d : RegNum) (r : RegNum) (n : Imm5) (s : State) : Out := shift1I (checkCount 32) lsrBy d r n s

/-- ASR, fmt24drs (43_shift_bitfield.md R204). -/
def execAsr (d : RegNum) (r : RegNum) (rs : RegNum) (s : State) : Out := shift1 (checkCount 32) asrBy d r rs s

/-- ASRI, fmt24drn (43_shift_bitfield.md R205). -/
def execAsri (d : RegNum) (r : RegNum) (n : Imm5) (s : State) : Out := shift1I (checkCount 32) asrBy d r n s

/-- ROR, fmt24drs (43_shift_bitfield.md R206). -/
def execRor (d : RegNum) (r : RegNum) (rs : RegNum) (s : State) : Out := shift1 anyCount rorBy d r rs s

/-- RORI, fmt24drn (43_shift_bitfield.md R207). -/
def execRori (d : RegNum) (r : RegNum) (n : Imm5) (s : State) : Out := shift1I anyCount rorBy d r n s

/-- SHR, fmt32drst (43_shift_bitfield.md R209): double length. -/
def execShr (d : RegNum) (r : RegNum) (rs : RegNum) (rt : RegNum) (zz : BitVec 2) (u : Bool) (s : State) : Out := shift2 (checkCount 64) lsrBy d r rs rt zz u s

/-- SHRI, fmt32drnt (43_shift_bitfield.md R210): double length. -/
def execShri (d : RegNum) (r : RegNum) (n : Imm5) (rt : RegNum) (zz : BitVec 2) (u : Bool) (s : State) : Out := shift2I (checkCount 64) lsrBy d r n rt zz u s

/-- ASR, fmt32drst (43_shift_bitfield.md R211): double length. -/
def execAsrD (d : RegNum) (r : RegNum) (rs : RegNum) (rt : RegNum) (zz : BitVec 2) (u : Bool) (s : State) : Out := shift2 (checkCount 64) asrBy d r rs rt zz u s

/-- ASRI, fmt32drnt (43_shift_bitfield.md R212): double length. -/
def execAsriD (d : RegNum) (r : RegNum) (n : Imm5) (rt : RegNum) (zz : BitVec 2) (u : Bool) (s : State) : Out := shift2I (checkCount 64) asrBy d r n rt zz u s

/-- ROR, fmt32drst (43_shift_bitfield.md R213): double length. -/
def execRorD (d : RegNum) (r : RegNum) (rs : RegNum) (rt : RegNum) (zz : BitVec 2) (u : Bool) (s : State) : Out := shift2 anyCount rorBy d r rs rt zz u s

/-- RORI, fmt32drnt (43_shift_bitfield.md R214): double length. -/
def execRoriD (d : RegNum) (r : RegNum) (n : Imm5) (rt : RegNum) (zz : BitVec 2) (u : Bool) (s : State) : Out := shift2I anyCount rorBy d r n rt zz u s

/-- EXTRCT, fmt24drs (43_shift_bitfield.md R215). -/
def execExtrct (d : RegNum) (r : RegNum) (rs : RegNum) (s : State) : Out := extract1 (s.npc 3) d r [r, rs] (s.rd (s.npc 3) rs).val s

/-- EXTRCTI, fmt24drn (43_shift_bitfield.md R216): what the 13-bit form says is entry 21. -/
def execExtrcti (d : RegNum) (r : RegNum) (n : Imm5) (s : State) : Out := extract1 (s.npc (3 + n.extLen)) d r [r] (immDescriptor n) s

/-- EXTRCT, fmt32drst (43_shift_bitfield.md R217): double length source. -/
def execExtrctD (d : RegNum) (r : RegNum) (rs : RegNum) (rt : RegNum) (zz : BitVec 2) (u : Bool) (s : State) : Out := extract2 (s.npc 4) d r rt [r, rs, rt] (s.rd (s.npc 4) rs).val zz u s

/-- EXTRCTI, fmt32drnt (43_shift_bitfield.md R218): double length source; what the 13-bit form says, a location of 32 to 63 among it, is entry 21. -/
def execExtrctiD (d : RegNum) (r : RegNum) (n : Imm5) (rt : RegNum) (zz : BitVec 2) (u : Bool) (s : State) : Out := extract2 (s.npc (4 + n.extLen)) d r rt [r, rt] (immDescriptor n) zz u s

/-- INSRT, fmt32drst (43_shift_bitfield.md R219). -/
def execInsrt (d : RegNum) (r : RegNum) (rs : RegNum) (rt : RegNum) (zz : BitVec 2) (u : Bool) (s : State) : Out := insert2 (s.npc 4) d r rt [r, rs, rt] (s.rd (s.npc 4) rs).val zz u s

/-- INSRTI, fmt32drnt (43_shift_bitfield.md R220): what the 13-bit form says is entry 21. -/
def execInsrti (d : RegNum) (r : RegNum) (n : Imm5) (rt : RegNum) (zz : BitVec 2) (u : Bool) (s : State) : Out := insert2 (s.npc (4 + n.extLen)) d r rt [r, rt] (immDescriptor n) zz u s

/-- CMOV, fmt32drst, fmt32drnt (43_shift_bitfield.md R222): the operand roles are not given. -/
def execCmov (_f : BitVec 24) (_s : State) : Out := .refused .cmov

/-- MERG, fmt32drst, fmt32drnt (43_shift_bitfield.md R221): no encoding and no operand roles. -/
def execMerg (_s : State) : Out := .refused .merg

end Sys2Proof.Machine
end

