-- ==== Sys2Proof/Machine/SingleOperand.lean ====
section
/-! DEFINITION. The single operand instructions (47_single_operand.md). -/

namespace Sys2Proof.Machine

/-! ## Shared operations -/

/-- The common procedure of the integer single operand instructions (47_single_operand.md R313): the result keeps the
operand's type. -/
def single (f : TyCode → Word → Word) (d rs : RegNum) (z : Bool) (s : State) : Out :=
  let npc := s.npc 3
  let x := s.rd npc rs
  outcome do
    s.checkReads [rs]
    refuseFloaty [x.ty]
    return s.writeBack npc d (negIf z (f x.ty x.val)) x.ty .keep

/-- A float single operand instruction (47_single_operand.md section 4): the spec gives it no effect. -/
def floatSingle (m : SingleOp) : Out := .refused (.floatOp m)

/-! ## The instructions -/

/-- IN, fmt24ds (47_single_operand.md R315): the value is a draw (entry 12). -/
def execInp (d : RegNum) (rs : RegNum) (z : Bool) (s : State) : Out := 
  let npc := s.npc 3
  let p := (s.rd npc rs).val
  outcome do
    refuseIf (z = true) .operandModifier
    s.checkReads [rs]
    return (s.portRead p).writeBack npc d (s.portDraw p) .u .keep

/-- OUT, fmt24ds (47_single_operand.md R316): `d` is a source here. -/
def execOut (d : RegNum) (rs : RegNum) (z : Bool) (s : State) : Out := 
  let npc := s.npc 3
  outcome do
    refuseIf (z = true) .operandModifier
    s.checkReads [rs, d]
    return { s.portWrite (s.rd npc rs).val (s.rd npc d).val with pc := npc }

/-- MOV, fmt24ds (47_single_operand.md R317): with `z = 0` every type is copied. -/
def execMov (d : RegNum) (rs : RegNum) (z : Bool) (s : State) : Out := 
  let npc := s.npc 3
  let x := s.rd npc rs
  outcome do
    s.checkReads [rs]
    refuseIf (z = true ∧ isFloaty x.ty = true) .floatOrPosit
    return s.writeBack npc d (negIf z x.val) x.ty .keep

/-- NOT, fmt24ds (47_single_operand.md R319): types ignored, also with `z = 1` (entry 14). -/
def execNot (d : RegNum) (rs : RegNum) (z : Bool) (s : State) : Out := 
  let npc := s.npc 3
  outcome do
    s.checkReads [rs]
    return s.writeBack npc d (negIf z (~~~(s.rd npc rs).val)) .u .keep

/-- NEG, fmt24ds (47_single_operand.md R320). -/
def execNeg (d : RegNum) (rs : RegNum) (z : Bool) (s : State) : Out := single (fun t v => BitVec.ofInt 32 (0 - valOf t v)) d rs z s

/-- INC, fmt24ds (47_single_operand.md R321). -/
def execInc (d : RegNum) (rs : RegNum) (z : Bool) (s : State) : Out := single (fun t v => BitVec.ofInt 32 (valOf t v + 1)) d rs z s

/-- DEC, fmt24ds (47_single_operand.md R322). -/
def execDec (d : RegNum) (rs : RegNum) (z : Bool) (s : State) : Out := single (fun t v => BitVec.ofInt 32 (valOf t v - 1)) d rs z s

/-- ABS, fmt24ds (47_single_operand.md R323). -/
def execAbs (d : RegNum) (rs : RegNum) (z : Bool) (s : State) : Out := single (fun t v => BitVec.ofNat 32 (valOf t v).natAbs) d rs z s

/-- NABS, fmt24ds (47_single_operand.md R324). -/
def execNabs (d : RegNum) (rs : RegNum) (z : Bool) (s : State) : Out := single (fun t v => BitVec.ofInt 32 (0 - ((valOf t v).natAbs : Int))) d rs z s

/-- LDZCNT, fmt24ds (47_single_operand.md R325). -/
def execLdzcnt (d : RegNum) (rs : RegNum) (z : Bool) (s : State) : Out := single (fun _ v => BitVec.ofNat 32 (leadingRun false v 32)) d rs z s

/-- LD1CNT, fmt24ds (47_single_operand.md R326). -/
def execLd1cnt (d : RegNum) (rs : RegNum) (z : Bool) (s : State) : Out := single (fun _ v => BitVec.ofNat 32 (leadingRun true v 32)) d rs z s

/-- TRZCNT, fmt24ds (47_single_operand.md R327). -/
def execTrzcnt (d : RegNum) (rs : RegNum) (z : Bool) (s : State) : Out := single (fun _ v => BitVec.ofNat 32 (trailingRun false v 32)) d rs z s

/-- TR1CNT, fmt24ds (47_single_operand.md R328). -/
def execTr1cnt (d : RegNum) (rs : RegNum) (z : Bool) (s : State) : Out := single (fun _ v => BitVec.ofNat 32 (trailingRun true v 32)) d rs z s

/-- POPCNT, fmt24ds (47_single_operand.md R329). -/
def execPopcnt (d : RegNum) (rs : RegNum) (z : Bool) (s : State) : Out := single (fun _ v => BitVec.ofNat 32 (onesBelow v 32)) d rs z s

/-- SQRT, fmt24ds (47_single_operand.md R330): for an operand that is not negative the pattern is the value. -/
def execSqrt (d : RegNum) (rs : RegNum) (z : Bool) (s : State) : Out := 
  let npc := s.npc 3
  let x := s.rd npc rs
  outcome do
    s.checkReads [rs]
    refuseFloaty [x.ty]
    refuseIf (valOf x.ty x.val < 0) .sqrtNegative
    return s.writeBack npc d (negIf z (BitVec.ofNat 32 (isqrt x.val.toNat))) x.ty .keep

/-- SINPI, fmt24ds (47_single_operand.md R331): refused. -/
def execSinpi (_d : RegNum) (_rs : RegNum) (_z : Bool) (_s : State) : Out := floatSingle .sinpi

/-- COSPI, fmt24ds (47_single_operand.md R332): refused. -/
def execCospi (_d : RegNum) (_rs : RegNum) (_z : Bool) (_s : State) : Out := floatSingle .cospi

/-- TANPI, fmt24ds (47_single_operand.md R333): refused. -/
def execTanpi (_d : RegNum) (_rs : RegNum) (_z : Bool) (_s : State) : Out := floatSingle .tanpi

/-- ASINPI, fmt24ds (47_single_operand.md R334): refused. -/
def execAsinpi (_d : RegNum) (_rs : RegNum) (_z : Bool) (_s : State) : Out := floatSingle .asinpi

/-- ACOSPI, fmt24ds (47_single_operand.md R335): refused. -/
def execAcospi (_d : RegNum) (_rs : RegNum) (_z : Bool) (_s : State) : Out := floatSingle .acospi

/-- ATANPI, fmt24ds (47_single_operand.md R336): refused. -/
def execAtanpi (_d : RegNum) (_rs : RegNum) (_z : Bool) (_s : State) : Out := floatSingle .atanpi

/-- INT, fmt24ds (47_single_operand.md R337): refused. -/
def execInt (_d : RegNum) (_rs : RegNum) (_z : Bool) (_s : State) : Out := floatSingle .int

/-- FLT, fmt24ds (47_single_operand.md R338): refused. -/
def execFlt (_d : RegNum) (_rs : RegNum) (_z : Bool) (_s : State) : Out := floatSingle .flt

/-- EXPON, fmt24ds (47_single_operand.md R340): refused. -/
def execExpon (_d : RegNum) (_rs : RegNum) (_z : Bool) (_s : State) : Out := floatSingle .expon

/-- FRACT, fmt24ds (47_single_operand.md R341): refused. -/
def execFract (_d : RegNum) (_rs : RegNum) (_z : Bool) (_s : State) : Out := floatSingle .fract

/-- FSQRT, fmt24ds (47_single_operand.md R342): refused. -/
def execFsqrt (_d : RegNum) (_rs : RegNum) (_z : Bool) (_s : State) : Out := floatSingle .fsqrt

/-- FRSQRT, fmt24ds (47_single_operand.md R343): refused. -/
def execFrsqrt (_d : RegNum) (_rs : RegNum) (_z : Bool) (_s : State) : Out := floatSingle .frsqrt

/-- FRCP, fmt24ds (47_single_operand.md R344): refused. -/
def execFrcp (_d : RegNum) (_rs : RegNum) (_z : Bool) (_s : State) : Out := floatSingle .frcp

/-- LN2P1, fmt24ds (47_single_operand.md R345): refused. -/
def execLn2p1 (_d : RegNum) (_rs : RegNum) (_z : Bool) (_s : State) : Out := floatSingle .ln2p1

/-- LN2, fmt24ds (47_single_operand.md R346): refused. -/
def execLn2 (_d : RegNum) (_rs : RegNum) (_z : Bool) (_s : State) : Out := floatSingle .ln2

/-- EXP2M1, fmt24ds (47_single_operand.md R351): refused. -/
def execExp2m1 (_d : RegNum) (_rs : RegNum) (_z : Bool) (_s : State) : Out := floatSingle .exp2m1

/-- EXP2, fmt24ds (47_single_operand.md R352): refused. -/
def execExp2 (_d : RegNum) (_rs : RegNum) (_z : Bool) (_s : State) : Out := floatSingle .exp2

/-- RND, fmt24ds (47_single_operand.md R363): refused. -/
def execRnd (_d : RegNum) (_rs : RegNum) (_z : Bool) (_s : State) : Out := floatSingle .rnd

/-- RNDTEV, fmt24ds (47_single_operand.md R364): refused. -/
def execRndtev (_d : RegNum) (_rs : RegNum) (_z : Bool) (_s : State) : Out := floatSingle .rndtev

/-- RNDTOD, fmt24ds (47_single_operand.md R365): refused. -/
def execRndtod (_d : RegNum) (_rs : RegNum) (_z : Bool) (_s : State) : Out := floatSingle .rndtod

/-- RNDTZ, fmt24ds (47_single_operand.md R366): refused. -/
def execRndtz (_d : RegNum) (_rs : RegNum) (_z : Bool) (_s : State) : Out := floatSingle .rndtz

/-- RNDFZ, fmt24ds (47_single_operand.md R367): refused. -/
def execRndfz (_d : RegNum) (_rs : RegNum) (_z : Bool) (_s : State) : Out := floatSingle .rndfz

/-- CEIL, fmt24ds (47_single_operand.md R368): refused. -/
def execCeil (_d : RegNum) (_rs : RegNum) (_z : Bool) (_s : State) : Out := floatSingle .ceil

/-- FLOOR, fmt24ds (47_single_operand.md R369): refused. -/
def execFloor (_d : RegNum) (_rs : RegNum) (_z : Bool) (_s : State) : Out := floatSingle .floor

/-- 32-bit single operand container, fmt32ds (47_single_operand.md R314): no layout is given. -/
def execContainer32 (_f : BitVec 24) (_s : State) : Out := .refused .fmt32ds

/-- CVT, fmt32ds (47_single_operand.md R339): only in the 32-bit container. -/
def execCvt (_s : State) : Out := .refused .fmt32ds

/-- LNP1, fmt32ds (47_single_operand.md R347): only in the 32-bit container. -/
def execLnp1 (_s : State) : Out := .refused .fmt32ds

/-- LN, fmt32ds (47_single_operand.md R348): only in the 32-bit container. -/
def execLn (_s : State) : Out := .refused .fmt32ds

/-- LOGP1, fmt32ds (47_single_operand.md R349): only in the 32-bit container. -/
def execLogp1 (_s : State) : Out := .refused .fmt32ds

/-- LOG, fmt32ds (47_single_operand.md R350): only in the 32-bit container. -/
def execLog (_s : State) : Out := .refused .fmt32ds

/-- EXPM1, fmt32ds (47_single_operand.md R353): only in the 32-bit container. -/
def execExpm1 (_s : State) : Out := .refused .fmt32ds

/-- EXP, fmt32ds (47_single_operand.md R354): only in the 32-bit container. -/
def execExp (_s : State) : Out := .refused .fmt32ds

/-- EXP10M1, fmt32ds (47_single_operand.md R355): only in the 32-bit container. -/
def execExp10m1 (_s : State) : Out := .refused .fmt32ds

/-- EXP10, fmt32ds (47_single_operand.md R356): only in the 32-bit container. -/
def execExp10 (_s : State) : Out := .refused .fmt32ds

/-- SIN, fmt32ds (47_single_operand.md R357): only in the 32-bit container. -/
def execSin (_s : State) : Out := .refused .fmt32ds

/-- COS, fmt32ds (47_single_operand.md R358): only in the 32-bit container. -/
def execCos (_s : State) : Out := .refused .fmt32ds

/-- TAN, fmt32ds (47_single_operand.md R359): only in the 32-bit container. -/
def execTan (_s : State) : Out := .refused .fmt32ds

/-- ASIN, fmt32ds (47_single_operand.md R360): only in the 32-bit container. -/
def execAsin (_s : State) : Out := .refused .fmt32ds

/-- ACOS, fmt32ds (47_single_operand.md R361): only in the 32-bit container. -/
def execAcos (_s : State) : Out := .refused .fmt32ds

/-- ATAN, fmt32ds (47_single_operand.md R362): only in the 32-bit container. -/
def execAtan (_s : State) : Out := .refused .fmt32ds

/-- MOVI, fmt24ds, fmt32ds (47_single_operand.md R318): only in the 32-bit container. -/
def execMovi (_s : State) : Out := .refused .fmt32ds

end Sys2Proof.Machine
end

