-- ==== Sys2Proof/Machine/Dispatch.lean ====
section
/-! DEFINITION. One arm per instruction: a direct call of its meaning. -/

namespace Sys2Proof.Machine

def exec (i : Instr) (s : State) : Host.Outcome State Fault Refusal :=
  match i with
  | .br n => Sys2Proof.Machine.execBr n s
  | .callr n => Sys2Proof.Machine.execCallr n s
  | .bbs d r n => Sys2Proof.Machine.execBbs d r n s
  | .bbc d r n => Sys2Proof.Machine.execBbc d r n s
  | .brz24 d n => Sys2Proof.Machine.execBrz24 d n s
  | .brgz24 d n => Sys2Proof.Machine.execBrgz24 d n s
  | .brgez24 d n => Sys2Proof.Machine.execBrgez24 d n s
  | .brev24 d n => Sys2Proof.Machine.execBrev24 d n s
  | .brnz24 d n => Sys2Proof.Machine.execBrnz24 d n s
  | .brlez24 d n => Sys2Proof.Machine.execBrlez24 d n s
  | .brlz24 d n => Sys2Proof.Machine.execBrlz24 d n s
  | .brod24 d n => Sys2Proof.Machine.execBrod24 d n s
  | .brz32 d n => Sys2Proof.Machine.execBrz32 d n s
  | .brgz32 d n => Sys2Proof.Machine.execBrgz32 d n s
  | .brgez32 d n => Sys2Proof.Machine.execBrgez32 d n s
  | .brev32 d n => Sys2Proof.Machine.execBrev32 d n s
  | .brnz32 d n => Sys2Proof.Machine.execBrnz32 d n s
  | .brlez32 d n => Sys2Proof.Machine.execBrlez32 d n s
  | .brlz32 d n => Sys2Proof.Machine.execBrlz32 d n s
  | .brod32 d n => Sys2Proof.Machine.execBrod32 d n s
  | .ldi8 d a n => Sys2Proof.Machine.execLdi8 d a n s
  | .ldi16 d a n => Sys2Proof.Machine.execLdi16 d a n s
  | .ldi24 d a n => Sys2Proof.Machine.execLdi24 d a n s
  | .ldi32 d a n => Sys2Proof.Machine.execLdi32 d a n s
  | .enter f => Sys2Proof.Machine.execEnter f s
  | .exit f => Sys2Proof.Machine.execExit f s
  | .st8Dbj d b j => Sys2Proof.Machine.execSt8Dbj d b j s
  | .st8Dbn d b n => Sys2Proof.Machine.execSt8Dbn d b n s
  | .st8Dbjs d b j rs y => Sys2Proof.Machine.execSt8Dbjs d b j rs y s
  | .st8Dbjn d b j n y => Sys2Proof.Machine.execSt8Dbjn d b j n y s
  | .st8Mbjs m b j rs y => Sys2Proof.Machine.execSt8Mbjs m b j rs y s
  | .st8Mbjn m b j n y => Sys2Proof.Machine.execSt8Mbjn m b j n y s
  | .st16Dbj d b j => Sys2Proof.Machine.execSt16Dbj d b j s
  | .st16Dbn d b n => Sys2Proof.Machine.execSt16Dbn d b n s
  | .st16Dbjs d b j rs y => Sys2Proof.Machine.execSt16Dbjs d b j rs y s
  | .st16Dbjn d b j n y => Sys2Proof.Machine.execSt16Dbjn d b j n y s
  | .st16Mbjs m b j rs y => Sys2Proof.Machine.execSt16Mbjs m b j rs y s
  | .st16Mbjn m b j n y => Sys2Proof.Machine.execSt16Mbjn m b j n y s
  | .st24Dbj d b j => Sys2Proof.Machine.execSt24Dbj d b j s
  | .st24Dbn d b n => Sys2Proof.Machine.execSt24Dbn d b n s
  | .st24Dbjs d b j rs y => Sys2Proof.Machine.execSt24Dbjs d b j rs y s
  | .st24Dbjn d b j n y => Sys2Proof.Machine.execSt24Dbjn d b j n y s
  | .st24Mbjs m b j rs y => Sys2Proof.Machine.execSt24Mbjs m b j rs y s
  | .st24Mbjn m b j n y => Sys2Proof.Machine.execSt24Mbjn m b j n y s
  | .st32Dbj d b j => Sys2Proof.Machine.execSt32Dbj d b j s
  | .st32Dbn d b n => Sys2Proof.Machine.execSt32Dbn d b n s
  | .st32Dbjs d b j rs y => Sys2Proof.Machine.execSt32Dbjs d b j rs y s
  | .st32Dbjn d b j n y => Sys2Proof.Machine.execSt32Dbjn d b j n y s
  | .st32Mbjs m b j rs y => Sys2Proof.Machine.execSt32Mbjs m b j rs y s
  | .st32Mbjn m b j n y => Sys2Proof.Machine.execSt32Mbjn m b j n y s
  | .ldu8Dbj d b j => Sys2Proof.Machine.execLdu8Dbj d b j s
  | .ldu8Dbn d b n => Sys2Proof.Machine.execLdu8Dbn d b n s
  | .ldu8Dbjs d b j rs y u => Sys2Proof.Machine.execLdu8Dbjs d b j rs y u s
  | .ldu8Dbjn d b j n y u => Sys2Proof.Machine.execLdu8Dbjn d b j n y u s
  | .ldu16Dbj d b j => Sys2Proof.Machine.execLdu16Dbj d b j s
  | .ldu16Dbn d b n => Sys2Proof.Machine.execLdu16Dbn d b n s
  | .ldu16Dbjs d b j rs y u => Sys2Proof.Machine.execLdu16Dbjs d b j rs y u s
  | .ldu16Dbjn d b j n y u => Sys2Proof.Machine.execLdu16Dbjn d b j n y u s
  | .ldu24Dbj d b j => Sys2Proof.Machine.execLdu24Dbj d b j s
  | .ldu24Dbn d b n => Sys2Proof.Machine.execLdu24Dbn d b n s
  | .ldu24Dbjs d b j rs y u => Sys2Proof.Machine.execLdu24Dbjs d b j rs y u s
  | .ldu24Dbjn d b j n y u => Sys2Proof.Machine.execLdu24Dbjn d b j n y u s
  | .ldu32Dbj d b j => Sys2Proof.Machine.execLdu32Dbj d b j s
  | .ldu32Dbn d b n => Sys2Proof.Machine.execLdu32Dbn d b n s
  | .ldu32Dbjs d b j rs y u => Sys2Proof.Machine.execLdu32Dbjs d b j rs y u s
  | .ldu32Dbjn d b j n y u => Sys2Proof.Machine.execLdu32Dbjn d b j n y u s
  | .ld8Dbj d b j => Sys2Proof.Machine.execLd8Dbj d b j s
  | .ld8Dbn d b n => Sys2Proof.Machine.execLd8Dbn d b n s
  | .ld8Dbjs d b j rs y u => Sys2Proof.Machine.execLd8Dbjs d b j rs y u s
  | .ld8Dbjn d b j n y u => Sys2Proof.Machine.execLd8Dbjn d b j n y u s
  | .ld16Dbj d b j => Sys2Proof.Machine.execLd16Dbj d b j s
  | .ld16Dbn d b n => Sys2Proof.Machine.execLd16Dbn d b n s
  | .ld16Dbjs d b j rs y u => Sys2Proof.Machine.execLd16Dbjs d b j rs y u s
  | .ld16Dbjn d b j n y u => Sys2Proof.Machine.execLd16Dbjn d b j n y u s
  | .ld24Dbj d b j => Sys2Proof.Machine.execLd24Dbj d b j s
  | .ld24Dbn d b n => Sys2Proof.Machine.execLd24Dbn d b n s
  | .ld24Dbjs d b j rs y u => Sys2Proof.Machine.execLd24Dbjs d b j rs y u s
  | .ld24Dbjn d b j n y u => Sys2Proof.Machine.execLd24Dbjn d b j n y u s
  | .ld32Dbj d b j => Sys2Proof.Machine.execLd32Dbj d b j s
  | .ld32Dbn d b n => Sys2Proof.Machine.execLd32Dbn d b n s
  | .ld32Dbjs d b j rs y u => Sys2Proof.Machine.execLd32Dbjs d b j rs y u s
  | .ld32Dbjn d b j n y u => Sys2Proof.Machine.execLd32Dbjn d b j n y u s
  | .fld8Dbj d b j => Sys2Proof.Machine.execFld8Dbj d b j s
  | .fld8Dbn d b n => Sys2Proof.Machine.execFld8Dbn d b n s
  | .fld8Dbjs d b j rs y u => Sys2Proof.Machine.execFld8Dbjs d b j rs y u s
  | .fld8Dbjn d b j n y u => Sys2Proof.Machine.execFld8Dbjn d b j n y u s
  | .fld16Dbj d b j => Sys2Proof.Machine.execFld16Dbj d b j s
  | .fld16Dbn d b n => Sys2Proof.Machine.execFld16Dbn d b n s
  | .fld16Dbjs d b j rs y u => Sys2Proof.Machine.execFld16Dbjs d b j rs y u s
  | .fld16Dbjn d b j n y u => Sys2Proof.Machine.execFld16Dbjn d b j n y u s
  | .fld24Dbj d b j => Sys2Proof.Machine.execFld24Dbj d b j s
  | .fld24Dbn d b n => Sys2Proof.Machine.execFld24Dbn d b n s
  | .fld24Dbjs d b j rs y u => Sys2Proof.Machine.execFld24Dbjs d b j rs y u s
  | .fld24Dbjn d b j n y u => Sys2Proof.Machine.execFld24Dbjn d b j n y u s
  | .fld32Dbj d b j => Sys2Proof.Machine.execFld32Dbj d b j s
  | .fld32Dbn d b n => Sys2Proof.Machine.execFld32Dbn d b n s
  | .fld32Dbjs d b j rs y u => Sys2Proof.Machine.execFld32Dbjs d b j rs y u s
  | .fld32Dbjn d b j n y u => Sys2Proof.Machine.execFld32Dbjn d b j n y u s
  | .pld8Dbj d b j => Sys2Proof.Machine.execPld8Dbj d b j s
  | .pld8Dbn d b n => Sys2Proof.Machine.execPld8Dbn d b n s
  | .pld8Dbjs d b j rs y u => Sys2Proof.Machine.execPld8Dbjs d b j rs y u s
  | .pld8Dbjn d b j n y u => Sys2Proof.Machine.execPld8Dbjn d b j n y u s
  | .pld16Dbj d b j => Sys2Proof.Machine.execPld16Dbj d b j s
  | .pld16Dbn d b n => Sys2Proof.Machine.execPld16Dbn d b n s
  | .pld16Dbjs d b j rs y u => Sys2Proof.Machine.execPld16Dbjs d b j rs y u s
  | .pld16Dbjn d b j n y u => Sys2Proof.Machine.execPld16Dbjn d b j n y u s
  | .pld24Dbj d b j => Sys2Proof.Machine.execPld24Dbj d b j s
  | .pld24Dbn d b n => Sys2Proof.Machine.execPld24Dbn d b n s
  | .pld24Dbjs d b j rs y u => Sys2Proof.Machine.execPld24Dbjs d b j rs y u s
  | .pld24Dbjn d b j n y u => Sys2Proof.Machine.execPld24Dbjn d b j n y u s
  | .pld32Dbj d b j => Sys2Proof.Machine.execPld32Dbj d b j s
  | .pld32Dbn d b n => Sys2Proof.Machine.execPld32Dbn d b n s
  | .pld32Dbjs d b j rs y u => Sys2Proof.Machine.execPld32Dbjs d b j rs y u s
  | .pld32Dbjn d b j n y u => Sys2Proof.Machine.execPld32Dbjn d b j n y u s
  | .lea8Dbjs d b j rs y u => Sys2Proof.Machine.execLea8Dbjs d b j rs y u s
  | .lea8Dbjn d b j n y u => Sys2Proof.Machine.execLea8Dbjn d b j n y u s
  | .lea16Dbjs d b j rs y u => Sys2Proof.Machine.execLea16Dbjs d b j rs y u s
  | .lea16Dbjn d b j n y u => Sys2Proof.Machine.execLea16Dbjn d b j n y u s
  | .lea24Dbjs d b j rs y u => Sys2Proof.Machine.execLea24Dbjs d b j rs y u s
  | .lea24Dbjn d b j n y u => Sys2Proof.Machine.execLea24Dbjn d b j n y u s
  | .lea32Dbjs d b j rs y u => Sys2Proof.Machine.execLea32Dbjs d b j rs y u s
  | .lea32Dbjn d b j n y u => Sys2Proof.Machine.execLea32Dbjn d b j n y u s
  | .callDbj d b j => Sys2Proof.Machine.execCallDbj d b j s
  | .callDbn d b n => Sys2Proof.Machine.execCallDbn d b n s
  | .callDbjs d b j rs y u => Sys2Proof.Machine.execCallDbjs d b j rs y u s
  | .callDbjn d b j n y u => Sys2Proof.Machine.execCallDbjn d b j n y u s
  | .add d r rs => Sys2Proof.Machine.execAdd d r rs s
  | .addi d r n => Sys2Proof.Machine.execAddi d r n s
  | .sub d r rs => Sys2Proof.Machine.execSub d r rs s
  | .subi d r n => Sys2Proof.Machine.execSubi d r n s
  | .mul d r rs => Sys2Proof.Machine.execMul d r rs s
  | .muli d r n => Sys2Proof.Machine.execMuli d r n s
  | .div d r rs => Sys2Proof.Machine.execDiv d r rs s
  | .divi d r n => Sys2Proof.Machine.execDivi d r n s
  | .addnu d r rs => Sys2Proof.Machine.execAddnu d r rs s
  | .addnui d r n => Sys2Proof.Machine.execAddnui d r n s
  | .subnu d r rs => Sys2Proof.Machine.execSubnu d r rs s
  | .subnui d r n => Sys2Proof.Machine.execSubnui d r n s
  | .mulnu d r rs => Sys2Proof.Machine.execMulnu d r rs s
  | .mulnui d r n => Sys2Proof.Machine.execMulnui d r n s
  | .divnu d r rs => Sys2Proof.Machine.execDivnu d r rs s
  | .divnui d r n => Sys2Proof.Machine.execDivnui d r n s
  | .and d r rs => Sys2Proof.Machine.execAnd d r rs s
  | .andi d r n => Sys2Proof.Machine.execAndi d r n s
  | .or d r rs => Sys2Proof.Machine.execOr d r rs s
  | .ori d r n => Sys2Proof.Machine.execOri d r n s
  | .xor d r rs => Sys2Proof.Machine.execXor d r rs s
  | .xori d r n => Sys2Proof.Machine.execXori d r n s
  | .cmp d r rs => Sys2Proof.Machine.execCmp d r rs s
  | .cmpi d r n => Sys2Proof.Machine.execCmpi d r n s
  | .extrct d r rs => Sys2Proof.Machine.execExtrct d r rs s
  | .extrcti d r n => Sys2Proof.Machine.execExtrcti d r n s
  | .lsr d r rs => Sys2Proof.Machine.execLsr d r rs s
  | .lsri d r n => Sys2Proof.Machine.execLsri d r n s
  | .asr d r rs => Sys2Proof.Machine.execAsr d r rs s
  | .asri d r n => Sys2Proof.Machine.execAsri d r n s
  | .ror d r rs => Sys2Proof.Machine.execRor d r rs s
  | .rori d r n => Sys2Proof.Machine.execRori d r n s
  | .vect d n => Sys2Proof.Machine.execVect d n s
  | .loop d r rs => Sys2Proof.Machine.execLoop d r rs s
  | .loopi d r f => Sys2Proof.Machine.execLoopi d r f s
  | .max d r rs => Sys2Proof.Machine.execMax d r rs s
  | .maxi d r n => Sys2Proof.Machine.execMaxi d r n s
  | .min d r rs => Sys2Proof.Machine.execMin d r rs s
  | .mini d r n => Sys2Proof.Machine.execMini d r n s
  | .add3 d r rs rt zz u => Sys2Proof.Machine.execAdd3 d r rs rt zz u s
  | .add3i d r n rt zz u => Sys2Proof.Machine.execAdd3i d r n rt zz u s
  | .sub3 d r rs rt zz u => Sys2Proof.Machine.execSub3 d r rs rt zz u s
  | .sub3i d r n rt zz u => Sys2Proof.Machine.execSub3i d r n rt zz u s
  | .mac d r rs rt zz u => Sys2Proof.Machine.execMac d r rs rt zz u s
  | .maci d r n rt zz u => Sys2Proof.Machine.execMaci d r n rt zz u s
  | .ddiv d r rs rt zz u => Sys2Proof.Machine.execDdiv d r rs rt zz u s
  | .ddivi d r n rt zz u => Sys2Proof.Machine.execDdivi d r n rt zz u s
  | .and3 d r rs rt zz u => Sys2Proof.Machine.execAnd3 d r rs rt zz u s
  | .and3i d r n rt zz u => Sys2Proof.Machine.execAnd3i d r n rt zz u s
  | .or3 d r rs rt zz u => Sys2Proof.Machine.execOr3 d r rs rt zz u s
  | .or3i d r n rt zz u => Sys2Proof.Machine.execOr3i d r n rt zz u s
  | .xor3 d r rs rt zz u => Sys2Proof.Machine.execXor3 d r rs rt zz u s
  | .xor3i d r n rt zz u => Sys2Proof.Machine.execXor3i d r n rt zz u s
  | .insrt d r rs rt zz u => Sys2Proof.Machine.execInsrt d r rs rt zz u s
  | .insrti d r n rt zz u => Sys2Proof.Machine.execInsrti d r n rt zz u s
  | .extrctD d r rs rt zz u => Sys2Proof.Machine.execExtrctD d r rs rt zz u s
  | .extrctiD d r n rt zz u => Sys2Proof.Machine.execExtrctiD d r n rt zz u s
  | .shr d r rs rt zz u => Sys2Proof.Machine.execShr d r rs rt zz u s
  | .shri d r n rt zz u => Sys2Proof.Machine.execShri d r n rt zz u s
  | .asrD d r rs rt zz u => Sys2Proof.Machine.execAsrD d r rs rt zz u s
  | .asriD d r n rt zz u => Sys2Proof.Machine.execAsriD d r n rt zz u s
  | .rorD d r rs rt zz u => Sys2Proof.Machine.execRorD d r rs rt zz u s
  | .roriD d r n rt zz u => Sys2Proof.Machine.execRoriD d r n rt zz u s
  | .max3 d r rs rt zz u => Sys2Proof.Machine.execMax3 d r rs rt zz u s
  | .max3i d r n rt zz u => Sys2Proof.Machine.execMax3i d r n rt zz u s
  | .min3 d r rs rt zz u => Sys2Proof.Machine.execMin3 d r rs rt zz u s
  | .min3i d r n rt zz u => Sys2Proof.Machine.execMin3i d r n rt zz u s
  | .median3 d r rs rt zz u => Sys2Proof.Machine.execMedian3 d r rs rt zz u s
  | .median3I d r n rt zz u => Sys2Proof.Machine.execMedian3I d r n rt zz u s
  | .intp f => Sys2Proof.Machine.execIntp f s
  | .lut f => Sys2Proof.Machine.execLut f s
  | .cmov f => Sys2Proof.Machine.execCmov f s
  | .container32 f => Sys2Proof.Machine.execContainer32 f s
  | .mmov f => Sys2Proof.Machine.execMmov f s
  | .pcnd f => Sys2Proof.Machine.execPcnd f s
  | .pcb1 f => Sys2Proof.Machine.execPcb1 f s
  | .stm f => Sys2Proof.Machine.execStm f s
  | .ldm f => Sys2Proof.Machine.execLdm f s
  | .tt f => Sys2Proof.Machine.execTt f s
  | .inp d rs z => Sys2Proof.Machine.execInp d rs z s
  | .out d rs z => Sys2Proof.Machine.execOut d rs z s
  | .mov d rs z => Sys2Proof.Machine.execMov d rs z s
  | .not d rs z => Sys2Proof.Machine.execNot d rs z s
  | .neg d rs z => Sys2Proof.Machine.execNeg d rs z s
  | .inc d rs z => Sys2Proof.Machine.execInc d rs z s
  | .dec d rs z => Sys2Proof.Machine.execDec d rs z s
  | .abs d rs z => Sys2Proof.Machine.execAbs d rs z s
  | .nabs d rs z => Sys2Proof.Machine.execNabs d rs z s
  | .ldzcnt d rs z => Sys2Proof.Machine.execLdzcnt d rs z s
  | .ld1cnt d rs z => Sys2Proof.Machine.execLd1cnt d rs z s
  | .trzcnt d rs z => Sys2Proof.Machine.execTrzcnt d rs z s
  | .tr1cnt d rs z => Sys2Proof.Machine.execTr1cnt d rs z s
  | .popcnt d rs z => Sys2Proof.Machine.execPopcnt d rs z s
  | .sqrt d rs z => Sys2Proof.Machine.execSqrt d rs z s
  | .sinpi d rs z => Sys2Proof.Machine.execSinpi d rs z s
  | .cospi d rs z => Sys2Proof.Machine.execCospi d rs z s
  | .tanpi d rs z => Sys2Proof.Machine.execTanpi d rs z s
  | .asinpi d rs z => Sys2Proof.Machine.execAsinpi d rs z s
  | .acospi d rs z => Sys2Proof.Machine.execAcospi d rs z s
  | .atanpi d rs z => Sys2Proof.Machine.execAtanpi d rs z s
  | .int d rs z => Sys2Proof.Machine.execInt d rs z s
  | .flt d rs z => Sys2Proof.Machine.execFlt d rs z s
  | .expon d rs z => Sys2Proof.Machine.execExpon d rs z s
  | .fract d rs z => Sys2Proof.Machine.execFract d rs z s
  | .fsqrt d rs z => Sys2Proof.Machine.execFsqrt d rs z s
  | .frsqrt d rs z => Sys2Proof.Machine.execFrsqrt d rs z s
  | .frcp d rs z => Sys2Proof.Machine.execFrcp d rs z s
  | .ln2p1 d rs z => Sys2Proof.Machine.execLn2p1 d rs z s
  | .ln2 d rs z => Sys2Proof.Machine.execLn2 d rs z s
  | .exp2m1 d rs z => Sys2Proof.Machine.execExp2m1 d rs z s
  | .exp2 d rs z => Sys2Proof.Machine.execExp2 d rs z s
  | .rnd d rs z => Sys2Proof.Machine.execRnd d rs z s
  | .rndtev d rs z => Sys2Proof.Machine.execRndtev d rs z s
  | .rndtod d rs z => Sys2Proof.Machine.execRndtod d rs z s
  | .rndtz d rs z => Sys2Proof.Machine.execRndtz d rs z s
  | .rndfz d rs z => Sys2Proof.Machine.execRndfz d rs z s
  | .ceil d rs z => Sys2Proof.Machine.execCeil d rs z s
  | .floor d rs z => Sys2Proof.Machine.execFloor d rs z s
  | .trap => Sys2Proof.Machine.execTrap s
  | .brk => Sys2Proof.Machine.execBrk s
  | .nxth => Sys2Proof.Machine.execNxth s
  | .nxtw => Sys2Proof.Machine.execNxtw s
  | .cvt => Sys2Proof.Machine.execCvt s
  | .lnp1 => Sys2Proof.Machine.execLnp1 s
  | .ln => Sys2Proof.Machine.execLn s
  | .logp1 => Sys2Proof.Machine.execLogp1 s
  | .log => Sys2Proof.Machine.execLog s
  | .expm1 => Sys2Proof.Machine.execExpm1 s
  | .exp => Sys2Proof.Machine.execExp s
  | .exp10m1 => Sys2Proof.Machine.execExp10m1 s
  | .exp10 => Sys2Proof.Machine.execExp10 s
  | .sin => Sys2Proof.Machine.execSin s
  | .cos => Sys2Proof.Machine.execCos s
  | .tan => Sys2Proof.Machine.execTan s
  | .asin => Sys2Proof.Machine.execAsin s
  | .acos => Sys2Proof.Machine.execAcos s
  | .atan => Sys2Proof.Machine.execAtan s
  | .movi => Sys2Proof.Machine.execMovi s
  | .merg => Sys2Proof.Machine.execMerg s
  | .eadd => Sys2Proof.Machine.execEadd s
  | .mv2 => Sys2Proof.Machine.execMv2 s
  | .shl => Sys2Proof.Machine.execShl s

end Sys2Proof.Machine
end

