-- ==== Sys2Proof/Machine/Fetch.lean ====
section
/-! DEFINITION. Fetching the bytes of the next instruction (30_encoding.md R92, 60_exceptions.md R373 steps 1 to 3). -/

namespace Sys2Proof.Machine

/-- The first of the `n` addresses from `a` up that has the property. -/
def firstAddr (p : Nat → Bool) (a : Nat) : (n : Nat) → Option Nat
  | 0 => none
  | n + 1 => if p a then some a else firstAddr p (a + 1) n

/-- The `n` bytes from address `a` up, which must not pass the end of the address space (10_state.md R28), must be held
by the map (20_memory.md R67) and must be text (R71), checked in this order (entry 7). -/
def fetchBytes (m : Memory) (a n : Nat) : Res (List Byte) :=
  if 2 ^ 32 < a + n then .error (.fault .fetchWrap)
  else match firstAddr (fun x => (m.kind x).isNone) a n with
    | some x => .error (.fault (.memoryAccess (BitVec.ofNat 32 x)))
    | none =>
      match firstAddr (fun x => m.kind x != some .text) a n with
      | some x => .error (.fault (.fetchOutsideText (BitVec.ofNat 32 x)))
      | none => .ok ((List.range' a n).map m.byte)

/-- The bytes of the instruction at the pc: the opcode byte, the base it announces, the extension bytes the base
announces. -/
def fetch (s : State) : Res (List Byte) := do
  let first ← fetchBytes s.mem s.pc.toNat 1
  let op := leNat first
  let base ← fetchBytes s.mem s.pc.toNat (baseLen op)
  let ext ← fetchBytes s.mem (s.pc.toNat + baseLen op) (extCount op (leNat base))
  return base ++ ext

end Sys2Proof.Machine
end

