-- ==== Sys2Proof/Machine/Step.lean ====
section
/-! DEFINITION. One step: fetch, decode, execute. -/

namespace Sys2Proof.Machine

/-- One step of the machine. Whatever the decoder cannot read as an instruction is an illegal instruction
(30_encoding.md R112, 60_exceptions.md R370). The pc is moved by the instruction's meaning (10_state.md R28). -/
def step (s : State) : Host.Outcome State Fault Refusal :=
  match fetch s with
  | .error e => outcome (.error e)
  | .ok bytes =>
    match decode bytes with
    | .ok i => exec i s
    | .error _ => takeTrap .illegalInstruction

/-- The map in which the longest instruction can be fetched from address `a`: the map itself if these bytes are text
already, else with one text region before it. -/
def textAt (map : List Region) (a : Nat) : List Region :=
  if (List.range' a maxLength).all fun x => regionAt map x == some .text then map
  else { base := a, size := maxLength, kind := .text } :: map

/-- The state with the instruction `w` of `nbits` bits stored at the pc (entry 6). -/
def State.withFetchWord (s : State) (nbits w : Nat) : State :=
  let mem : Memory := { s.mem with map := textAt s.mem.map s.pc.toNat }
  { s with mem := mem.setBytes s.pc ((tableBytes nbits w).take (2 ^ 32 - s.pc.toNat)) }

end Sys2Proof.Machine
end

