-- ==== Sys2Proof/Safety.lean ====
section
/-! DEFINITION. The terms in which claims about runs are stated: the invariant of the machine, a step that completes, and
what an instruction of each shape leaves behind. Every frame below speaks of R0 to R30 through `State.reg`, of every byte
of memory through `Memory.byte` and `Memory.kind`, of whether R28 holds a value, and of the model's own fields `events` and
`draws`. -/

namespace Sys2Proof.Machine

/-! ## The shapes of instructions that statements range over -/

/-- three registers -/
abbrev Form3 := RegNum → RegNum → RegNum → Instr
/-- two registers and an immediate -/
abbrev Form3I := RegNum → RegNum → Imm5 → Instr
/-- four registers and the small fields of the 32-bit formats -/
abbrev Form4 := RegNum → RegNum → RegNum → RegNum → BitVec 2 → Bool → Instr
/-- fmt32drnt: three registers, the immediate third -/
abbrev Form4I := RegNum → RegNum → Imm5 → RegNum → BitVec 2 → Bool → Instr
/-- fmt32dbjn: three registers, the immediate fourth -/
abbrev Form4X := RegNum → RegNum → RegNum → Imm5 → BitVec 2 → Bool → Instr
/-- a 32-bit register store with a register offset -/
abbrev FormS := RegNum → RegNum → RegNum → RegNum → BitVec 2 → Instr
/-- a 32-bit register store with an immediate offset -/
abbrev FormSI := RegNum → RegNum → RegNum → Imm5 → BitVec 2 → Instr
/-- a store immediate with a register offset -/
abbrev FormM := Imm5 → RegNum → RegNum → RegNum → BitVec 2 → Instr
/-- a store immediate with an immediate offset -/
abbrev FormMI := Imm5 → RegNum → RegNum → Imm5 → BitVec 2 → Instr
/-- a single operand instruction -/
abbrev Form1 := RegNum → RegNum → Bool → Instr
/-- a conditional branch with a displacement of `w` bits -/
abbrev FormB (w : Nat) := RegNum → BitVec w → Instr

/-! ## Runs -/

/-- The invariant every step keeps: the memory is in canonical form and lists only bytes the map holds. -/
def State.Inv (s : State) : Prop := s.mem.wf = true

/-- The next step completes: neither a trap, nor a fault, nor a refusal. -/
def State.Completes (s : State) : Prop := ∃ t, step s = .next t

/-- A run of `k` steps, each of which completes, leads from `s` to `t`. -/
def Reaches : (k : Nat) → (s t : State) → Prop
  | 0, s, t => s = t
  | k + 1, s, t => ∃ u, step s = .next u ∧ Reaches k u t

/-! ## Frames -/

/-- Both states give every address the same content and the same kind. -/
structure SameMemory (s t : State) : Prop where
  byte : ∀ a, t.mem.byte a = s.mem.byte a
  kind : ∀ a, t.mem.kind a = s.mem.kind a

/-- The general registers R0 to R30 outside `w` hold the same value and type in both states. -/
def SameRegsBut (w : RegNum → Prop) (s t : State) : Prop := ∀ i, i ≠ 31 → ¬ w i → t.reg i = s.reg i

/-- Whether R28 holds no value after an instruction, from whether it held none before: it is lost by an enabled residue
update without a stated value and by one of an instruction whose destination is R28, and found again by any other write of
it (10_state.md R23, R29, entry 2). -/
def residueAfter (d : RegNum) (lost : Bool) : ResidueEffect → Bool
  | .keep => lost && d != 28
  | .put _ => d == 28
  | .unstated => true

/-- `t` is `s` after an instruction that writes `(v, ty)` to `d` and treats the residue register as `res` says. When R28
is left without a value nothing is said of its content, which no instruction can read. -/
structure Writes (s t : State) (npc : Word) (d : RegNum) (v : Word) (ty : TyCode) (res : ResidueEffect) : Prop where
  pc : t.pc = if d = 31 then v else npc
  lost : t.residueLost = residueAfter d s.residueLost res
  dest : d ≠ 31 → (d = 28 → res = .keep) → t.reg d = { val := v, ty := ty }
  residue : ∀ w, res = .put w → d ≠ 28 → t.reg 28 = { val := w, ty := ty }
  regs : SameRegsBut (fun i => i = d ∨ (i = 28 ∧ res ≠ .keep)) s t
  memory : SameMemory s t
  events : t.events = s.events
  draws : t.draws = s.draws

/-- `t` is `s` with the pc at `target` and nothing else changed. -/
structure Jumps (s t : State) (target : Word) : Prop where
  pc : t.pc = target
  lost : t.residueLost = s.residueLost
  regs : SameRegsBut (fun _ => False) s t
  memory : SameMemory s t
  events : t.events = s.events
  draws : t.draws = s.draws

/-- `t` is `s` with the pc at `target` and the return address `link`, of type U, in `d` unless `d` is R31. -/
structure Calls (s t : State) (target : Word) (d : RegNum) (link : Word) : Prop where
  pc : t.pc = target
  lost : t.residueLost = (s.residueLost && d != 28)
  dest : d ≠ 31 → t.reg d = { val := link, ty := .u }
  regs : SameRegsBut (fun i => i = d) s t
  memory : SameMemory s t
  events : t.events = s.events
  draws : t.draws = s.draws

/-- `t` is `s` with the low `ds` bytes of `v` stored from `ea` up, modulo 2^32, the least significant byte first. -/
structure Stores (s t : State) (npc ea : Word) (ds : Nat) (v : Word) : Prop where
  pc : t.pc = npc
  lost : t.residueLost = s.residueLost
  regs : SameRegsBut (fun _ => False) s t
  stored : ∀ k < ds, t.mem.byte (ea + BitVec.ofNat 32 k).toNat = v.extractLsb' (8 * k) 8
  kept : ∀ a, (∀ k < ds, a ≠ (ea + BitVec.ofNat 32 k).toNat) → t.mem.byte a = s.mem.byte a
  kind : ∀ a, t.mem.kind a = s.mem.kind a
  events : t.events = s.events
  draws : t.draws = s.draws

/-- The `n` bytes from `a` up, modulo 2^32, are all held by the map. -/
def Held (s : State) (a : Word) (n : Nat) : Prop :=
  ∀ k < n, (s.mem.kind (a + BitVec.ofNat 32 k).toNat).isSome = true

/-- The `n` bytes from `a` up, modulo 2^32, are all `ram`. -/
def Ram (s : State) (a : Word) (n : Nat) : Prop :=
  ∀ k < n, s.mem.kind (a + BitVec.ofNat 32 k).toNat = some .ram

/-- The `n` bytes from the address `a` up are all `text`, and none of them passes the end of the address space. -/
def Fetchable (s : State) (a n : Nat) : Prop :=
  a + n ≤ 2 ^ 32 ∧ ∀ k < n, s.mem.kind (a + k) = some .text

/-- The `n` bytes from the address `a` up. -/
def bytesAt (s : State) (a n : Nat) : List Byte := (List.range' a n).map s.mem.byte

/-- The instructions that store to memory: ST8 to ST32 in all their forms (44_loadstore.md R256 to R259). -/
def storesMemory : Instr → Bool
  | .st8Dbj .. | .st8Dbn .. | .st8Dbjs .. | .st8Dbjn .. | .st8Mbjs .. | .st8Mbjn .. => true
  | .st16Dbj .. | .st16Dbn .. | .st16Dbjs .. | .st16Dbjn .. | .st16Mbjs .. | .st16Mbjn .. => true
  | .st24Dbj .. | .st24Dbn .. | .st24Dbjs .. | .st24Dbjn .. | .st24Mbjs .. | .st24Mbjn .. => true
  | .st32Dbj .. | .st32Dbn .. | .st32Dbjs .. | .st32Dbjn .. | .st32Mbjs .. | .st32Mbjn .. => true
  | _ => false

/-- The instructions that act on ports: IN and OUT (20_memory.md R72). -/
def usesPorts : Instr → Bool
  | .inp .. | .out .. => true
  | _ => false

end Sys2Proof.Machine
end

