-- ==== Sys2Proof/Certificates/Slice0/Obligations.lean ====
section
/-! DEFINITION. The statements for the provers. Each docstring says which rules or sections it formalises. -/

open Sys2Proof Sys2Proof.Machine

/-- O1, Decoding the encoding of a well-formed instruction gives it back. For every well-formed instruction i and every bytes after it, decode (encode i ++ rest) is i: no bit of an encoding is dropped or confused, whatever the operands. It rests on D2 and D9 (placement of bytes), D23 (order of two immediates) and, for opcode 0x37, on no assignment of sub-opcodes (entry 8). (30_encoding.md sections 1 to 6, 47_single_operand.md section 1) -/
def Obligations.DecodeEncode : Prop :=
  ∀ (i : Instr) (rest : List Byte), WellFormed i = true → decode (encode i ++ rest) = .ok i

/-- O2, Every word has one meaning: what decodes is the encoding of what it decodes to. Whenever the decoder reads an instruction i from bytes, i is well-formed and the first bytes, as many as the length of i, are exactly the encoding of i: the decoder looks at every bit and no two encodings of one instruction exist. (30_encoding.md sections 1 to 7) -/
def Obligations.EncodeDecode : Prop :=
  ∀ (bs : List Byte) (i : Instr), decode bs = .ok i →
    WellFormed i = true ∧ instrLength i ≤ bs.length ∧ bs.take (instrLength i) = encode i

/-- O3, Some words of the spec decode to the instructions they stand for. The bytes printed in the rules and vectors for one instruction of each family decode to it. (30_encoding.md sections 3 to 6, 95_test_vectors.md sections 3 to 10) -/
def Obligations.DecodeWords : Prop :=
  decode [0x20, 0x43, 0x10] = .ok (.add 3 1 2) ∧
  decode [0x28, 0x43, 0x10] = .ok (.and 3 1 2) ∧
  decode [0x63, 0x44, 0x10, 0x19] = .ok (.ddiv 4 1 2 3 0 true) ∧
  decode [0x2C, 0x63, 0x90, 0x04] = .ok (.extrcti 3 1 (.wide 0x204)) ∧
  decode [0x13, 0xDF, 0x0F] = .ok (.ldu32Dbj 31 31 1) ∧
  decode [0x88, 0x43, 0x00, 0x00, 0x80] = .ok (.ldi24 3 .s 0x800000) ∧
  decode [0x4F, 0x6B, 0x58, 0x01, 0x00, 0x01, 0x00, 0x00, 0x78, 0x56, 0x34, 0x12] =
    .ok (.st32Mbjn (.data4 0x12345678) 1 0 (.data4 0x100) 0) ∧
  decode [0x47, 0xC5, 0x00, 0x80] = .ok (.brlz32 5 0x8000) ∧
  decode [0x72, 0x64, 0x00, 0x18] = .ok (.median3I 4 1 (.short 0) 3 0 false)

/-- O4, The one-byte instructions are TRAP, BRK, NXTH and NXTW. A well-formed instruction is one byte long exactly when it is TRAP, BRK, NXTH or NXTW; each of the four is its opcode byte alone, whose six top bits are 0, and has no operand field. (R94) -/
def Obligations.OneByteInstructions : Prop :=
  (∀ i : Instr, WellFormed i = true → (instrLength i = 1 ↔ i ∈ [.trap, .brk, .nxth, .nxtw])) ∧
  ∀ i ∈ [Instr.trap, .brk, .nxth, .nxtw], ∃ op : Byte, encode i = [op] ∧ op.toNat < 4 ∧ ∀ rest, decode (op :: rest) = .ok i

/-- O5, A step runs the instruction that the bytes at the pc decode to. When the bytes at the pc, as many as the length of i, are text, do not pass the end of the address space and decode to i, the step is exec of i at the same state: step adds nothing around exec, and every meaning moves the pc itself. (30_encoding.md section 1, 10_state.md section 2) -/
def Obligations.StepRunsDecoded : Prop :=
  ∀ (s : State) (i : Instr), Fetchable s s.pc.toNat (instrLength i) →
    decode (bytesAt s s.pc.toNat (instrLength i)) = .ok i → step s = exec i s

/-- O6, Where a fetch stops. An opcode byte that is absent is a memory access fault and one that is ram a fetch outside text, at the pc. A base that would pass address 0xFFFFFFFF is a wrap fault. Where the base does not pass it and its opcode byte is text, the first base byte that is absent is a memory access fault at its own address, whatever bytes before it are ram; with all base bytes held, the first that is ram is a fetch outside text at its address. Where the base can be fetched, the extension bytes it announces stop the fetch in the same three ways. The rules rest on the decisions D34, D43 and D44, the order within one check on entry 7. (10_state.md section 2 (D43), 20_memory.md section 1 (D44), 20_memory.md section 2 (D34), 60_exceptions.md section 1 (D31), 30_encoding.md section 4) -/
def Obligations.FetchStops : Prop :=
  ∀ s : State,
    let a := s.pc.toNat
    let n := baseLen (s.mem.byte a).toNat
    (s.mem.kind a = none → step s = .fault (.memoryAccess s.pc)) ∧
    (s.mem.kind a = some .ram → step s = .fault (.fetchOutsideText s.pc)) ∧
    (s.mem.kind a = some .text → 2 ^ 32 < a + n → step s = .fault .fetchWrap) ∧
    (s.mem.kind a = some .text → a + n ≤ 2 ^ 32 → ∀ k < n,
      ((∀ j < k, (s.mem.kind (a + j)).isSome = true) → s.mem.kind (a + k) = none →
        step s = .fault (.memoryAccess (s.pc + BitVec.ofNat 32 k))) ∧
      ((∀ j < k, s.mem.kind (a + j) = some .text) → s.mem.kind (a + k) = some .ram →
        (∀ j < n, (s.mem.kind (a + j)).isSome = true) →
        step s = .fault (.fetchOutsideText (s.pc + BitVec.ofNat 32 k)))) ∧
    (Fetchable s a n →
      let e := extCount (s.mem.byte a).toNat (leNat (bytesAt s a n))
      (2 ^ 32 < a + n + e → step s = .fault .fetchWrap) ∧
      (a + n + e ≤ 2 ^ 32 → ∀ k < e,
        ((∀ j < k, (s.mem.kind (a + n + j)).isSome = true) → s.mem.kind (a + n + k) = none →
          step s = .fault (.memoryAccess (s.pc + BitVec.ofNat 32 (n + k)))) ∧
        ((∀ j < k, s.mem.kind (a + n + j) = some .text) → s.mem.kind (a + n + k) = some .ram →
          (∀ j < e, (s.mem.kind (a + n + j)).isSome = true) →
          step s = .fault (.fetchOutsideText (s.pc + BitVec.ofNat 32 (n + k))))))

/-- O7, Unassigned opcodes, LDI with its x bit and undefined sub-opcodes trap. A step at a base that can be fetched is an illegal instruction trap when its opcode is one to which the source assigns nothing, when it is an LDI with bit 13 set, and when it is opcode 0x37 with a sub-opcode outside subop24. The spec gives them this cause by its decision D30. (30_encoding.md section 7 (D30), 47_single_operand.md section 1, 60_exceptions.md section 1) -/
def Obligations.IllegalInstructions : Prop :=
  ∀ s : State,
    let a := s.pc.toNat
    let op := (s.mem.byte a).toNat
    Fetchable s a (baseLen op) →
    ((op ∈ [0x09, 0x30, 0x31, 0x38, 0x39, 0x3A, 0x3B, 0x3C, 0x3D, 0x3E, 0x3F, 0x40, 0x41, 0x42, 0x43, 0x46] ++
        [0x49, 0x4A, 0x4B, 0x78, 0x79] ∨ (0x80 ≤ op ∧ op ≠ 0x88 ∧ op ≠ 0xC8)) →
      step s = .fault (.trap .illegalInstruction)) ∧
    (op ∈ [0x08, 0x48, 0x88, 0xC8] → (s.mem.byte (a + 1)).getLsbD 5 = true →
      step s = .fault (.trap .illegalInstruction)) ∧
    (∀ k : Fin 32, op = 0x37 → subop24 k = none →
      k.val = ((s.mem.byte (a + 1)).toNat + 256 * (s.mem.byte (a + 2)).toNat) / 2 ^ 6 % 32 →
      step s = .fault (.trap .illegalInstruction))

/-- O8, The invariant holds after reset. The state after reset has its memory in canonical form. The invariant is the model's own form of memory. (20_memory.md section 1) -/
def Obligations.ResetInv : Prop :=
  State.reset.Inv

/-- O9, What reset leaves. After reset the pc is RESET_PC, every general register holds value 0 of type U and can be read, every byte is 0, text lies from 0x1000 to 0x7FFF and ram everywhere else, and the first step is an illegal instruction trap. Every value here is the model's choice: entries 1, 3, 4, 5 and 6. (10_state.md section 6, 70_reset_and_hazards.md section 1, 20_memory.md section 1) -/
def Obligations.ResetValues : Prop :=
  State.reset.pc = Config.resetPc ∧
  (∀ i : RegNum, i ≠ 31 → State.reset.reg i = { val := 0, ty := .u }) ∧
  (∀ l, State.reset.readable l = true) ∧
  (∀ a, State.reset.mem.byte a = 0) ∧
  (∀ a < 2 ^ 32, State.reset.mem.kind a = some (if 0x1000 ≤ a ∧ a < 0x8000 then .text else .ram)) ∧
  State.reset.events = [] ∧
  step State.reset = .fault (.trap .illegalInstruction)

/-- O10, Every step keeps the memory in canonical form. From every state in which the memory is in canonical form, with its listed bytes held by the map, every step that answers a next state leaves it so. (20_memory.md section 1, 44_loadstore.md section 7) -/
def Obligations.StepKeepsInv : Prop :=
  ∀ s t : State, s.Inv → step s = .next t → t.Inv

/-- O11, No step changes the address map or a byte that is not ram. Every step that answers a next state leaves the map as it is and leaves every byte the map marks text, or does not hold, as it is: the program text is immutable (20_memory.md R71, by the decision D34). (20_memory.md section 2 (D34), 20_memory.md section 1 (D44)) -/
def Obligations.StepKeepsText : Prop :=
  ∀ s t : State, step s = .next t →
    t.mem.map = s.mem.map ∧ ∀ a, s.mem.kind a ≠ some .ram → t.mem.byte a = s.mem.byte a

/-- O12, Only ST8 to ST32 change memory and only IN and OUT make events. Whatever instruction answers a next state: if it is not a store the memory is the same, if it is neither IN nor OUT no event is added, and a step never takes an event away nor adds more than one. The list of events is the model's own field, a DESIGN CHOICE (entry 12): R72 says only that the model records an event of IN and OUT. (44_loadstore.md section 7, 20_memory.md sections 1 to 3 (D37), 47_single_operand.md section 2) -/
def Obligations.OnlyStoresWriteMemory : Prop :=
  (∀ (i : Instr) (s t : State), exec i s = .next t →
    (storesMemory i = false → t.mem = s.mem) ∧ (usesPorts i = false → t.events = s.events)) ∧
  ∀ s t : State, step s = .next t → ∃ new, t.events = s.events ++ new ∧ new.length ≤ 1

/-- O13, ADD, ADDNU, SUB, SUBNU, MUL, MULNU with two registers: result, residue and frame. With both operands readable and of one type, U or S, the instruction completes: D gets bits 31:0 of the exact result on the integers the operands stand for, with that type; ADD, SUB and MUL write bits 63:32 to R28 with the same type, the NU forms do not touch it; D = R31 is a jump; D = R28 with a residue update leaves R28 without a value, so that a later read of it faults; nothing else changes. SUB is S - R. (40_addsub.md sections 1 to 3 (D13), 42_muldiv.md section 2, 10_state.md section 1 (D11, D14, D40)) -/
def Obligations.ArithRegister : Prop :=
  ∀ p ∈ ([(.add, fun a b => a + b, true), (.addnu, fun a b => a + b, false), (.sub, fun a b => b - a, true),
      (.subnu, fun a b => b - a, false), (.mul, fun a b => a * b, true), (.mulnu, fun a b => a * b, false)] :
      List (Form3 × (Int → Int → Int) × Bool)),
  ∀ (d r rs : RegNum) (s : State) (ty : TyCode),
    isFloaty ty = false → s.readable [r, rs] = true → (s.rd (s.npc 3) r).ty = ty → (s.rd (s.npc 3) rs).ty = ty →
    let e := p.2.1 (valOf ty (s.rd (s.npc 3) r).val) (valOf ty (s.rd (s.npc 3) rs).val)
    ∃ t, exec (p.1 d r rs) s = .next t ∧
      Writes s t (s.npc 3) d (BitVec.ofInt 32 e) ty (if p.2.2 then .put (BitVec.ofInt 32 (e / 2 ^ 32)) else .keep)

/-- O14, ADDI, ADDNUI, SUBI, SUBNUI, MULI, MULNUI: result, residue and frame. As the register forms, with an immediate of any encoding in the place of S, read in the type of R. (40_addsub.md sections 1 to 3 (D13), 42_muldiv.md section 2, 30_encoding.md section 4) -/
def Obligations.ArithImmediate : Prop :=
  ∀ p ∈ ([(.addi, fun a b => a + b, true), (.addnui, fun a b => a + b, false), (.subi, fun a b => b - a, true),
      (.subnui, fun a b => b - a, false), (.muli, fun a b => a * b, true), (.mulnui, fun a b => a * b, false)] :
      List (Form3I × (Int → Int → Int) × Bool)),
  ∀ (d r : RegNum) (n : Imm5) (s : State) (ty : TyCode),
    let npc := s.npc (3 + n.extLen)
    isFloaty ty = false → s.readable [r] = true → (s.rd npc r).ty = ty →
    let e := p.2.1 (valOf ty (s.rd npc r).val) (valOf ty (immVal n (if ty = .s then .signed else .unsigned)))
    ∃ t, exec (p.1 d r n) s = .next t ∧
      Writes s t npc d (BitVec.ofInt 32 e) ty (if p.2.2 then .put (BitVec.ofInt 32 (e / 2 ^ 32)) else .keep)

/-- O15, ADD3, SUB3, MAC and their immediate forms: result, sign changes, residue and frame. With all register operands readable and of one type, U or S, the instruction completes with the exact result of R + S + T, S - R + T or R * S + T, the signs of R and T changed by zz[1] and zz[0]; u says whether bits 63:32 go to R28. (40_addsub.md section 4 (D13, D15), 42_muldiv.md section 2, 30_encoding.md section 5) -/
def Obligations.ArithThree : Prop :=
  (∀ p ∈ ([(.add3, fun a b c => a + b + c), (.sub3, fun a b c => b - a + c), (.mac, fun a b c => a * b + c)] :
      List (Form4 × (Int → Int → Int → Int))),
    ∀ (d r rs rt : RegNum) (zz : BitVec 2) (u : Bool) (s : State) (ty : TyCode),
      let npc := s.npc 4
      isFloaty ty = false → s.readable [r, rs, rt] = true → (s.rd npc r).ty = ty → (s.rd npc rs).ty = ty → (s.rd npc rt).ty = ty →
      let e := p.2 ((if zz.getLsbD 1 then -1 else 1) * valOf ty (s.rd npc r).val) (valOf ty (s.rd npc rs).val)
        ((if zz.getLsbD 0 then -1 else 1) * valOf ty (s.rd npc rt).val)
      ∃ t, exec (p.1 d r rs rt zz u) s = .next t ∧
        Writes s t npc d (BitVec.ofInt 32 e) ty (if u then .put (BitVec.ofInt 32 (e / 2 ^ 32)) else .keep)) ∧
  ∀ p ∈ ([(.add3i, fun a b c => a + b + c), (.sub3i, fun a b c => b - a + c), (.maci, fun a b c => a * b + c)] :
      List (Form4I × (Int → Int → Int → Int))),
    ∀ (d r : RegNum) (n : Imm5) (rt : RegNum) (zz : BitVec 2) (u : Bool) (s : State) (ty : TyCode),
      let npc := s.npc (4 + n.extLen)
      isFloaty ty = false → s.readable [r, rt] = true → (s.rd npc r).ty = ty → (s.rd npc rt).ty = ty →
      let e := p.2 ((if zz.getLsbD 1 then -1 else 1) * valOf ty (s.rd npc r).val)
        (valOf ty (immVal n (if ty = .s then .signed else .unsigned)))
        ((if zz.getLsbD 0 then -1 else 1) * valOf ty (s.rd npc rt).val)
      ∃ t, exec (p.1 d r n rt zz u) s = .next t ∧
        Writes s t npc d (BitVec.ofInt 32 e) ty (if u then .put (BitVec.ofInt 32 (e / 2 ^ 32)) else .keep)

/-- O16, CMP and CMPI write the open comparison vector. With operands readable and of one type, U or S, CMP writes CmpResult of the type, S and R to D with type U and changes nothing else; CMPI takes the immediate in the place of S. CmpResult is an open parameter (entry 9): nothing is said of its value. (40_addsub.md section 5 (D39)) -/
def Obligations.Compare : Prop :=
  (∀ (d r rs : RegNum) (s : State) (ty : TyCode),
    isFloaty ty = false → s.readable [r, rs] = true → (s.rd (s.npc 3) r).ty = ty → (s.rd (s.npc 3) rs).ty = ty →
    ∃ t, exec (.cmp d r rs) s = .next t ∧
      Writes s t (s.npc 3) d (Config.cmpResult ty (s.rd (s.npc 3) rs).val (s.rd (s.npc 3) r).val) .u .keep) ∧
  ∀ (d r : RegNum) (n : Imm5) (s : State) (ty : TyCode),
    let npc := s.npc (3 + n.extLen)
    isFloaty ty = false → s.readable [r] = true → (s.rd npc r).ty = ty →
    ∃ t, exec (.cmpi d r n) s = .next t ∧
      Writes s t npc d (Config.cmpResult ty (immVal n (if ty = .s then .signed else .unsigned)) (s.rd npc r).val) .u .keep

/-- O17, ADD, SUB and MUL: destination and residue together are the exact result. With D neither R28 nor R31 and both operands readable. Unsigned ADD: D plus 2^32 times R28 is the sum, and R28 is 0 or 1. Unsigned SUB (S - R): D is the difference modulo 2^32, and R28 is 0 when S is at least R and 0xFFFFFFFF otherwise. MUL: D plus 2^32 times R28 is the product, unsigned for type U and with R28 and the operands read as signed for type S. (40_addsub.md sections 1 to 3 (D13), 42_muldiv.md sections 1 and 2, 95_test_vectors.md section 13) -/
def Obligations.ExactArithmetic : Prop :=
  ∀ (d r rs : RegNum) (s : State), d ≠ 28 → d ≠ 31 → s.readable [r, rs] = true →
    let a := s.rd (s.npc 3) r
    let b := s.rd (s.npc 3) rs
    (a.ty = .u → b.ty = .u → ∃ t, exec (.add d r rs) s = .next t ∧
      (t.reg d).val.toNat + 2 ^ 32 * (t.reg 28).val.toNat = a.val.toNat + b.val.toNat ∧ (t.reg 28).val.toNat ≤ 1) ∧
    (a.ty = .u → b.ty = .u → ∃ t, exec (.sub d r rs) s = .next t ∧ (t.reg d).val = b.val - a.val ∧
      (t.reg 28).val = if a.val.toNat ≤ b.val.toNat then 0 else 0xFFFFFFFF) ∧
    (a.ty = .u → b.ty = .u → ∃ t, exec (.mul d r rs) s = .next t ∧
      (t.reg d).val.toNat + 2 ^ 32 * (t.reg 28).val.toNat = a.val.toNat * b.val.toNat) ∧
    (a.ty = .s → b.ty = .s → ∃ t, exec (.mul d r rs) s = .next t ∧
      ((t.reg d).val.toNat : Int) + 2 ^ 32 * (t.reg 28).val.toInt = a.val.toInt * b.val.toInt)

/-- O18, The operand reads and the type check of the typed families. A typed instruction that reads R28 while it holds no value is the fault UnwrittenRegister 28. Where its operands can be read, a register operand of type float or Posit is refused as FloatOrPosit, whatever the other types, and with no such operand types that differ trap as TypeMismatch. For ADD3, SUB3, MAC and their immediate forms this is said for every zz; for DDIV, MAX3, MIN3, MEDIAN3 and theirs with zz = 0, another zz being refused before. Refusing floats is the decision D7 of the spec, trapping on every mixture D8, the order of the checks D31. (10_state.md section 1 (D7, D8, D14), 60_exceptions.md section 1 (D31), 40_addsub.md sections 1 and 4, 42_muldiv.md section 1, 46_irregular.md section 1, 30_encoding.md section 7 (D16)) -/
def Obligations.TypeChecks : Prop :=
  (∀ c ∈ ([.add, .addnu, .sub, .subnu, .mul, .mulnu, .div, .divnu, .cmp, .max, .min] : List Form3),
    ∀ (d r rs : RegNum) (s : State),
      let a := (s.rd (s.npc 3) r).ty
      let b := (s.rd (s.npc 3) rs).ty
      (s.readable [r, rs] = false → exec (c d r rs) s = .fault (.unwrittenRegister 28)) ∧
      (s.readable [r, rs] = true → (isFloaty a || isFloaty b) = true → exec (c d r rs) s = .refused .floatOrPosit) ∧
      (s.readable [r, rs] = true → (isFloaty a || isFloaty b) = false → b ≠ a → exec (c d r rs) s = .fault (.trap .typeMismatch))) ∧
  (∀ c ∈ ([.addi, .addnui, .subi, .subnui, .muli, .mulnui, .divi, .divnui, .cmpi, .maxi, .mini] : List Form3I),
    ∀ (d r : RegNum) (n : Imm5) (s : State),
      let a := (s.rd (s.npc (3 + n.extLen)) r).ty
      (s.readable [r] = false → exec (c d r n) s = .fault (.unwrittenRegister 28)) ∧
      (s.readable [r] = true → (isFloaty a) = true → exec (c d r n) s = .refused .floatOrPosit)) ∧
  (∀ c ∈ ([.add3, .sub3, .mac] : List Form4),
    ∀ (d r rs rt : RegNum) (zz : BitVec 2) (u : Bool) (s : State),
      let a := (s.rd (s.npc 4) r).ty
      let b := (s.rd (s.npc 4) rs).ty
      let g := (s.rd (s.npc 4) rt).ty
      (s.readable [r, rs, rt] = false → exec (c d r rs rt zz u) s = .fault (.unwrittenRegister 28)) ∧
      (s.readable [r, rs, rt] = true → (isFloaty a || isFloaty b || isFloaty g) = true → exec (c d r rs rt zz u) s = .refused .floatOrPosit) ∧
      (s.readable [r, rs, rt] = true → (isFloaty a || isFloaty b || isFloaty g) = false → ¬ (b = a ∧ g = a) → exec (c d r rs rt zz u) s = .fault (.trap .typeMismatch))) ∧
  (∀ c ∈ ([.ddiv, .max3, .min3, .median3] : List Form4),
    ∀ (d r rs rt : RegNum) (u : Bool) (s : State),
      let a := (s.rd (s.npc 4) r).ty
      let b := (s.rd (s.npc 4) rs).ty
      let g := (s.rd (s.npc 4) rt).ty
      (s.readable [r, rs, rt] = false → exec (c d r rs rt 0 u) s = .fault (.unwrittenRegister 28)) ∧
      (s.readable [r, rs, rt] = true → (isFloaty a || isFloaty b || isFloaty g) = true → exec (c d r rs rt 0 u) s = .refused .floatOrPosit) ∧
      (s.readable [r, rs, rt] = true → (isFloaty a || isFloaty b || isFloaty g) = false → ¬ (b = a ∧ g = a) → exec (c d r rs rt 0 u) s = .fault (.trap .typeMismatch))) ∧
  (∀ c ∈ ([.add3i, .sub3i, .maci] : List Form4I),
    ∀ (d r : RegNum) (n : Imm5) (rt : RegNum) (zz : BitVec 2) (u : Bool) (s : State),
      let a := (s.rd (s.npc (4 + n.extLen)) r).ty
      let g := (s.rd (s.npc (4 + n.extLen)) rt).ty
      (s.readable [r, rt] = false → exec (c d r n rt zz u) s = .fault (.unwrittenRegister 28)) ∧
      (s.readable [r, rt] = true → (isFloaty a || isFloaty g) = true → exec (c d r n rt zz u) s = .refused .floatOrPosit) ∧
      (s.readable [r, rt] = true → (isFloaty a || isFloaty g) = false → g ≠ a → exec (c d r n rt zz u) s = .fault (.trap .typeMismatch))) ∧
  (∀ c ∈ ([.ddivi, .max3i, .min3i, .median3I] : List Form4I),
    ∀ (d r : RegNum) (n : Imm5) (rt : RegNum) (u : Bool) (s : State),
      let a := (s.rd (s.npc (4 + n.extLen)) r).ty
      let g := (s.rd (s.npc (4 + n.extLen)) rt).ty
      (s.readable [r, rt] = false → exec (c d r n rt 0 u) s = .fault (.unwrittenRegister 28)) ∧
      (s.readable [r, rt] = true → (isFloaty a || isFloaty g) = true → exec (c d r n rt 0 u) s = .refused .floatOrPosit) ∧
      (s.readable [r, rt] = true → (isFloaty a || isFloaty g) = false → g ≠ a → exec (c d r n rt 0 u) s = .fault (.trap .typeMismatch)))

/-- O19, AND, OR, XOR and their immediate forms: result and frame. Whatever the types of the operands, when they can be read the instruction completes: D gets the bitwise result with type U, the residue register and everything else stay; the immediate is read as unsigned data (D9). A read of R28 while it holds no value faults. (41_boolean.md sections 1 and 2, 10_state.md sections 1 and 3 (D14), 30_encoding.md section 4 (D9)) -/
def Obligations.BooleanTwo : Prop :=
  (∀ p ∈ ([(.and, fun a b => a &&& b), (.or, fun a b => a ||| b), (.xor, fun a b => a ^^^ b)] :
      List (Form3 × (Word → Word → Word))),
    ∀ (d r rs : RegNum) (s : State),
      (s.readable [r, rs] = true → ∃ t, exec (p.1 d r rs) s = .next t ∧
        Writes s t (s.npc 3) d (p.2 (s.rd (s.npc 3) r).val (s.rd (s.npc 3) rs).val) .u .keep) ∧
      (s.readable [r, rs] = false → exec (p.1 d r rs) s = .fault (.unwrittenRegister 28))) ∧
  ∀ p ∈ ([(.andi, fun a b => a &&& b), (.ori, fun a b => a ||| b), (.xori, fun a b => a ^^^ b)] :
      List (Form3I × (Word → Word → Word))),
    ∀ (d r : RegNum) (n : Imm5) (s : State),
      let npc := s.npc (3 + n.extLen)
      (s.readable [r] = true → ∃ t, exec (p.1 d r n) s = .next t ∧
        Writes s t npc d (p.2 (s.rd npc r).val (immVal n .unsigned)) .u .keep) ∧
      (s.readable [r] = false → exec (p.1 d r n) s = .fault (.unwrittenRegister 28))

/-- O20, AND3, OR3, XOR3 and their immediate forms: result, complements, residue and frame. Whatever the types, when the operands can be read the instruction completes: D gets the bitwise result of R, S and T with type U, R and T complemented by zz[1] and zz[0] (D15), S never. u = 1 leaves R28 without a value (D16): a later read of it, shown by an OR in either of its operand positions, faults until it is written again. u = 0 leaves R28 alone unless it is D. A read of R28 while it holds no value faults. (41_boolean.md sections 1 and 3 (D15, D16), 10_state.md sections 1 and 3 (D14), 30_encoding.md section 7) -/
def Obligations.BooleanThree : Prop :=
  (∀ p ∈ ([(.and3, fun a b c => a &&& b &&& c), (.or3, fun a b c => a ||| b ||| c), (.xor3, fun a b c => a ^^^ b ^^^ c)] :
      List (Form4 × (Word → Word → Word → Word))),
    ∀ (d r rs rt : RegNum) (zz : BitVec 2) (u : Bool) (s : State),
      let npc := s.npc 4
      (s.readable [r, rs, rt] = false → exec (p.1 d r rs rt zz u) s = .fault (.unwrittenRegister 28)) ∧
      (s.readable [r, rs, rt] = true → ∃ t, exec (p.1 d r rs rt zz u) s = .next t ∧
        (u = true → ∀ e k : RegNum, exec (.or e 28 k) t = .fault (.unwrittenRegister 28) ∧ exec (.or e k 28) t = .fault (.unwrittenRegister 28)) ∧
        Writes s t npc d (p.2 (if zz.getLsbD 1 then ~~~(s.rd npc r).val else (s.rd npc r).val) (s.rd npc rs).val
          (if zz.getLsbD 0 then ~~~(s.rd npc rt).val else (s.rd npc rt).val)) .u (if u then .unstated else .keep))) ∧
  ∀ p ∈ ([(.and3i, fun a b c => a &&& b &&& c), (.or3i, fun a b c => a ||| b ||| c), (.xor3i, fun a b c => a ^^^ b ^^^ c)] :
      List (Form4I × (Word → Word → Word → Word))),
    ∀ (d r : RegNum) (n : Imm5) (rt : RegNum) (zz : BitVec 2) (u : Bool) (s : State),
      let npc := s.npc (4 + n.extLen)
      (s.readable [r, rt] = false → exec (p.1 d r n rt zz u) s = .fault (.unwrittenRegister 28)) ∧
      (s.readable [r, rt] = true → ∃ t, exec (p.1 d r n rt zz u) s = .next t ∧
        (u = true → ∀ e k : RegNum, exec (.or e 28 k) t = .fault (.unwrittenRegister 28) ∧ exec (.or e k 28) t = .fault (.unwrittenRegister 28)) ∧
        Writes s t npc d (p.2 (if zz.getLsbD 1 then ~~~(s.rd npc r).val else (s.rd npc r).val) (immVal n .unsigned)
          (if zz.getLsbD 0 then ~~~(s.rd npc rt).val else (s.rd npc rt).val)) .u (if u then .unstated else .keep))

/-- O21, DIV, DIVNU, DIVI, DIVNUI: quotient, remainder and frame. With operands readable and of one type, U or S, a divisor that is not 0 and not the one signed overflow (-2^31 by -1), the instruction completes: D gets the quotient truncated toward zero, the DIV forms write the remainder, which has the sign of the dividend, to R28; nothing else changes. (42_muldiv.md sections 1 and 3 (D17)) -/
def Obligations.Divide : Prop :=
  (∀ p ∈ ([(.div, true), (.divnu, false)] : List (Form3 × Bool)),
    ∀ (d r rs : RegNum) (s : State) (ty : TyCode),
      let a := valOf ty (s.rd (s.npc 3) r).val
      let b := valOf ty (s.rd (s.npc 3) rs).val
      isFloaty ty = false → s.readable [r, rs] = true → (s.rd (s.npc 3) r).ty = ty → (s.rd (s.npc 3) rs).ty = ty → b ≠ 0 →
      ¬ (ty = .s ∧ a = -2 ^ 31 ∧ b = -1) →
      ∃ t, exec (p.1 d r rs) s = .next t ∧
        Writes s t (s.npc 3) d (BitVec.ofInt 32 (a.tdiv b)) ty
          (if p.2 then .put (BitVec.ofInt 32 (a.tmod b)) else .keep)) ∧
  ∀ p ∈ ([(.divi, true), (.divnui, false)] : List (Form3I × Bool)),
    ∀ (d r : RegNum) (n : Imm5) (s : State) (ty : TyCode),
      let npc := s.npc (3 + n.extLen)
      let a := valOf ty (s.rd npc r).val
      let b := valOf ty (immVal n (if ty = .s then .signed else .unsigned))
      isFloaty ty = false → s.readable [r] = true → (s.rd npc r).ty = ty → b ≠ 0 → ¬ (ty = .s ∧ a = -2 ^ 31 ∧ b = -1) →
      ∃ t, exec (p.1 d r n) s = .next t ∧
        Writes s t npc d (BitVec.ofInt 32 (a.tdiv b)) ty (if p.2 then .put (BitVec.ofInt 32 (a.tmod b)) else .keep)

/-- O22, DDIV and DDIVI: quotient, remainder and frame. With zz = 0, register operands readable and of one type, a divisor that is not 0 and a quotient that fits 32 bits in that type, the instruction completes: the dividend has T as its upper and R as its lower half, D gets the quotient, u = 1 writes the remainder to R28. (42_muldiv.md section 3 (D17, D18), 30_encoding.md section 7) -/
def Obligations.DivideLong : Prop :=
  (∀ (d r rs rt : RegNum) (u : Bool) (s : State) (ty : TyCode),
    let npc := s.npc 4
    let a := valOf ty (s.rd npc rt).val * 2 ^ 32 + (s.rd npc r).val.toNat
    let b := valOf ty (s.rd npc rs).val
    isFloaty ty = false → s.readable [r, rs, rt] = true → (s.rd npc r).ty = ty → (s.rd npc rs).ty = ty → (s.rd npc rt).ty = ty → b ≠ 0 →
    (if ty = .s then -2 ^ 31 ≤ a.tdiv b ∧ a.tdiv b < 2 ^ 31 else a.tdiv b < 2 ^ 32) →
    ∃ t, exec (.ddiv d r rs rt 0 u) s = .next t ∧
      Writes s t npc d (BitVec.ofInt 32 (a.tdiv b)) ty (if u then .put (BitVec.ofInt 32 (a.tmod b)) else .keep)) ∧
  ∀ (d r : RegNum) (n : Imm5) (rt : RegNum) (u : Bool) (s : State) (ty : TyCode),
    let npc := s.npc (4 + n.extLen)
    let a := valOf ty (s.rd npc rt).val * 2 ^ 32 + (s.rd npc r).val.toNat
    let b := valOf ty (immVal n (if ty = .s then .signed else .unsigned))
    isFloaty ty = false → s.readable [r, rt] = true → (s.rd npc r).ty = ty → (s.rd npc rt).ty = ty → b ≠ 0 →
    (if ty = .s then -2 ^ 31 ≤ a.tdiv b ∧ a.tdiv b < 2 ^ 31 else a.tdiv b < 2 ^ 32) →
    ∃ t, exec (.ddivi d r n rt 0 u) s = .next t ∧
      Writes s t npc d (BitVec.ofInt 32 (a.tdiv b)) ty (if u then .put (BitVec.ofInt 32 (a.tmod b)) else .keep)

/-- O23, Where a division stops. With operands readable and of one type, U or S. A zero divisor is the fault DivideByZero in all eight instructions. -2^31 by -1 in type S is the fault DivideOverflow in DIV, DIVNU and their immediate forms. In DDIV and DDIVI with zz = 0 the fault DivideOverflow comes, for type U, when the upper half of the dividend is not below the divisor, and for type S, when the quotient lies outside -2^31 to 2^31 - 1. DDIV and DDIVI with zz other than 0 are refused. The faults are outcomes the spec itself gives (R185, R375, decision D17). (42_muldiv.md sections 1 and 3 (D16 to D18), 60_exceptions.md section 1 (D31), 30_encoding.md section 7) -/
def Obligations.DivideStops : Prop :=
  (∀ c ∈ ([.div, .divnu] : List Form3), ∀ (d r rs : RegNum) (s : State) (ty : TyCode),
    isFloaty ty = false → s.readable [r, rs] = true → (s.rd (s.npc 3) r).ty = ty → (s.rd (s.npc 3) rs).ty = ty →
    ((s.rd (s.npc 3) rs).val = 0 → exec (c d r rs) s = .fault .divideByZero) ∧
    (ty = .s → (s.rd (s.npc 3) r).val = 0x80000000 → (s.rd (s.npc 3) rs).val = 0xFFFFFFFF →
      exec (c d r rs) s = .fault .divideOverflow)) ∧
  (∀ c ∈ ([.divi, .divnui] : List Form3I), ∀ (d r : RegNum) (n : Imm5) (s : State) (ty : TyCode),
    let npc := s.npc (3 + n.extLen)
    isFloaty ty = false → s.readable [r] = true → (s.rd npc r).ty = ty →
    (immVal n (if ty = .s then .signed else .unsigned) = 0 → exec (c d r n) s = .fault .divideByZero) ∧
    (ty = .s → (s.rd npc r).val = 0x80000000 → immVal n .signed = 0xFFFFFFFF →
      exec (c d r n) s = .fault .divideOverflow)) ∧
  (∀ (d r rs rt : RegNum) (u : Bool) (s : State) (ty : TyCode),
    let npc := s.npc 4
    let a := valOf ty (s.rd npc rt).val * 2 ^ 32 + (s.rd npc r).val.toNat
    let v := (s.rd npc rs).val
    let b := valOf ty v
    isFloaty ty = false → s.readable [r, rs, rt] = true → (s.rd npc r).ty = ty → (s.rd npc rs).ty = ty → (s.rd npc rt).ty = ty →
    (v = 0 → exec (.ddiv d r rs rt 0 u) s = .fault .divideByZero) ∧
    (ty = .u → v ≠ 0 → v ≤ (s.rd npc rt).val → exec (.ddiv d r rs rt 0 u) s = .fault .divideOverflow) ∧
    (ty = .s → v ≠ 0 → ¬ (-2 ^ 31 ≤ a.tdiv b ∧ a.tdiv b < 2 ^ 31) → exec (.ddiv d r rs rt 0 u) s = .fault .divideOverflow)) ∧
  (∀ (d r : RegNum) (n : Imm5) (rt : RegNum) (u : Bool) (s : State) (ty : TyCode),
    let npc := s.npc (4 + n.extLen)
    let a := valOf ty (s.rd npc rt).val * 2 ^ 32 + (s.rd npc r).val.toNat
    let v := immVal n (if ty = .s then .signed else .unsigned)
    let b := valOf ty v
    isFloaty ty = false → s.readable [r, rt] = true → (s.rd npc r).ty = ty → (s.rd npc rt).ty = ty →
    (v = 0 → exec (.ddivi d r n rt 0 u) s = .fault .divideByZero) ∧
    (ty = .u → v ≠ 0 → v ≤ (s.rd npc rt).val → exec (.ddivi d r n rt 0 u) s = .fault .divideOverflow) ∧
    (ty = .s → v ≠ 0 → ¬ (-2 ^ 31 ≤ a.tdiv b ∧ a.tdiv b < 2 ^ 31) → exec (.ddivi d r n rt 0 u) s = .fault .divideOverflow)) ∧
  (∀ (d r rs rt : RegNum) (zz : BitVec 2) (u : Bool) (s : State), zz ≠ 0 →
    exec (.ddiv d r rs rt zz u) s = .refused .operandModifier) ∧
  ∀ (d r : RegNum) (n : Imm5) (rt : RegNum) (zz : BitVec 2) (u : Bool) (s : State), zz ≠ 0 →
    exec (.ddivi d r n rt zz u) s = .refused .operandModifier

/-- O24, DIV: dividend = quotient * divisor + remainder. Whenever DIV with D neither R28 nor R31 completes, the value of R is the value of D times the value of S plus the value of R28, and R28 is smaller in magnitude than S. (42_muldiv.md sections 1 and 3, 95_test_vectors.md section 13) -/
def Obligations.DivideIdentity : Prop :=
  ∀ (d r rs : RegNum) (s t : State), d ≠ 28 → d ≠ 31 → exec (.div d r rs) s = .next t →
    let ty := (s.rd (s.npc 3) r).ty
    valOf ty (s.rd (s.npc 3) r).val =
      valOf ty (t.reg d).val * valOf ty (s.rd (s.npc 3) rs).val + valOf ty (t.reg 28).val ∧
    |valOf ty (t.reg 28).val| < |valOf ty (s.rd (s.npc 3) rs).val|

/-- O25, DDIV after MUL gives the factor back. Unsigned, with a factor in S that is not 0: after MUL, a DDIV with u = 1 of the product in D and R28 by the same S completes, with the other factor in its destination and 0 in R28. (42_muldiv.md section 3, 95_test_vectors.md section 13) -/
def Obligations.DivideUndoesMultiply : Prop :=
  ∀ (d lo r rs : RegNum) (s t : State), lo ≠ 28 → lo ≠ 31 → d ≠ 28 → d ≠ 31 → rs ≠ 28 → rs ≠ 31 → rs ≠ lo →
    (s.rd (s.npc 3) r).ty = .u → (s.reg rs).ty = .u → (s.reg rs).val ≠ 0 → exec (.mul lo r rs) s = .next t →
    ∃ v, exec (.ddiv d lo rs 28 0 true) t = .next v ∧ v.reg d = { val := (s.rd (s.npc 3) r).val, ty := .u } ∧
      v.reg 28 = { val := 0, ty := .u }

/-- O26, LSR, ASR, ROR and their immediate forms: result and frame. With the registers readable, R not float or Posit, and for LSR and ASR a signed count between -31 and 31, the instruction completes: D gets the floor of R / 2^k (unsigned for LSR, signed for ASR), R * 2^-k for a negative count, or for ROR the rotation by k modulo 32, with the type of R. The count register may have any type. An immediate count may not have the 13-bit form. (43_shift_bitfield.md sections 1 and 2 (D18, D19, D40)) -/
def Obligations.ShiftSingle : Prop :=
  (∀ p ∈ ([(.lsr, true, fun a k => if 0 ≤ k then BitVec.ofNat 32 (a.toNat / 2 ^ k.toNat) else BitVec.ofNat 32 (a.toNat * 2 ^ (-k).toNat)),
      (.asr, true, fun a k => if 0 ≤ k then BitVec.ofInt 32 (a.toInt / 2 ^ k.toNat) else BitVec.ofNat 32 (a.toNat * 2 ^ (-k).toNat)),
      (.ror, false, fun a k => BitVec.ofNat 32 (a.toNat / 2 ^ (k % 32).toNat + a.toNat * 2 ^ (32 - (k % 32).toNat)))] :
      List (Form3 × Bool × (Word → Int → Word))),
    ∀ (d r rs : RegNum) (s : State),
      let a := s.rd (s.npc 3) r
      let k := (s.rd (s.npc 3) rs).val.toInt
      s.readable [r, rs] = true → isFloaty a.ty = false → (p.2.1 = true → -32 < k ∧ k < 32) →
      ∃ t, exec (p.1 d r rs) s = .next t ∧ Writes s t (s.npc 3) d (p.2.2 a.val k) a.ty .keep) ∧
  ∀ p ∈ ([(.lsri, true, fun a k => if 0 ≤ k then BitVec.ofNat 32 (a.toNat / 2 ^ k.toNat) else BitVec.ofNat 32 (a.toNat * 2 ^ (-k).toNat)),
      (.asri, true, fun a k => if 0 ≤ k then BitVec.ofInt 32 (a.toInt / 2 ^ k.toNat) else BitVec.ofNat 32 (a.toNat * 2 ^ (-k).toNat)),
      (.rori, false, fun a k => BitVec.ofNat 32 (a.toNat / 2 ^ (k % 32).toNat + a.toNat * 2 ^ (32 - (k % 32).toNat)))] :
      List (Form3I × Bool × (Word → Int → Word))),
    ∀ (d r : RegNum) (n : Imm5) (s : State),
      let npc := s.npc (3 + n.extLen)
      let a := s.rd npc r
      let k := (immVal n .disp).toInt
      s.readable [r] = true → isWide n = false → isFloaty a.ty = false → (p.2.1 = true → -32 < k ∧ k < 32) →
      ∃ t, exec (p.1 d r n) s = .next t ∧ Writes s t npc d (p.2.2 a.val k) a.ty .keep

/-- O27, SHR, ASR and ROR of a double-length source and their immediate forms: result and frame. With zz = 0, the registers readable, R and T not float or Posit, and for SHR and ASR a count between -63 and 63, the instruction completes: D gets the low 32 bits of the shift of the 64-bit source with T above R, with the type of R; u = 1 leaves R28 without a value (D16). (43_shift_bitfield.md sections 1 and 3 (D16, D18, D40), 30_encoding.md section 7) -/
def Obligations.ShiftDouble : Prop :=
  (∀ p ∈ ([(.shr, true, fun a k => if 0 ≤ k then BitVec.ofNat 32 (a.toNat / 2 ^ k.toNat) else BitVec.ofNat 32 (a.toNat * 2 ^ (-k).toNat)),
      (.asrD, true, fun a k => if 0 ≤ k then BitVec.ofInt 32 (a.toInt / 2 ^ k.toNat) else BitVec.ofNat 32 (a.toNat * 2 ^ (-k).toNat)),
      (.rorD, false, fun a k => BitVec.ofNat 32 (a.toNat / 2 ^ (k % 64).toNat + a.toNat * 2 ^ (64 - (k % 64).toNat)))] :
      List (Form4 × Bool × (BitVec 64 → Int → Word))),
    ∀ (d r rs rt : RegNum) (u : Bool) (s : State),
      let a := s.rd (s.npc 4) r
      let c := s.rd (s.npc 4) rt
      let k := (s.rd (s.npc 4) rs).val.toInt
      s.readable [r, rs, rt] = true → isFloaty a.ty = false → isFloaty c.ty = false → (p.2.1 = true → -64 < k ∧ k < 64) →
      ∃ t, exec (p.1 d r rs rt 0 u) s = .next t ∧
        Writes s t (s.npc 4) d (p.2.2 (c.val ++ a.val) k) a.ty (if u then .unstated else .keep)) ∧
  ∀ p ∈ ([(.shri, true, fun a k => if 0 ≤ k then BitVec.ofNat 32 (a.toNat / 2 ^ k.toNat) else BitVec.ofNat 32 (a.toNat * 2 ^ (-k).toNat)),
      (.asriD, true, fun a k => if 0 ≤ k then BitVec.ofInt 32 (a.toInt / 2 ^ k.toNat) else BitVec.ofNat 32 (a.toNat * 2 ^ (-k).toNat)),
      (.roriD, false, fun a k => BitVec.ofNat 32 (a.toNat / 2 ^ (k % 64).toNat + a.toNat * 2 ^ (64 - (k % 64).toNat)))] :
      List (Form4I × Bool × (BitVec 64 → Int → Word))),
    ∀ (d r : RegNum) (n : Imm5) (rt : RegNum) (u : Bool) (s : State),
      let npc := s.npc (4 + n.extLen)
      let a := s.rd npc r
      let c := s.rd npc rt
      let k := (immVal n .disp).toInt
      s.readable [r, rt] = true → isWide n = false → isFloaty a.ty = false → isFloaty c.ty = false → (p.2.1 = true → -64 < k ∧ k < 64) →
      ∃ t, exec (p.1 d r n rt 0 u) s = .next t ∧
        Writes s t npc d (p.2.2 (c.val ++ a.val) k) a.ty (if u then .unstated else .keep)

/-- O28, EXTRCT and EXTRCTI, single and double length: the field, its lengthening and the frame. With the registers readable, R (and T) not float or Posit, a descriptor below 2^12 whose length is not 0 and a field inside the source and not longer than 32 bits, the instruction completes: D gets the field at the location given, sign-extended when R has type S and zero-extended when it has type U, with the type of R; u = 1 in the double forms leaves R28 without a value (D16). The descriptor of an immediate of the 13-bit form is its 12 bits, so that the double form reaches locations 32 to 63 by it (entry 21), of another form the immediate read as a displacement. (43_shift_bitfield.md sections 1 and 4 (D16, D18, D20, D40), 30_encoding.md section 4) -/
def Obligations.Extract : Prop :=
  (∀ (d r rs : RegNum) (s : State),
      let npc := s.npc 3
      let a := s.rd npc r
      let fo := (s.rd npc rs).val.toNat
      let f := a.val.toNat / 2 ^ (fo / 64) % 2 ^ (fo % 64)
      s.readable [r, rs] = true → isFloaty a.ty = false → fo < 2 ^ 12 → fo % 64 ≠ 0 → fo / 64 + fo % 64 ≤ 32 →
      ∃ t, exec (.extrct d r rs) s = .next t ∧
        Writes s t npc d (if a.ty = .s ∧ 2 ^ (fo % 64 - 1) ≤ f then BitVec.ofInt 32 ((f : Int) - 2 ^ (fo % 64)) else BitVec.ofNat 32 f)
          a.ty .keep) ∧
  (∀ (d r : RegNum) (n : Imm5) (s : State),
      let npc := s.npc (3 + n.extLen)
      let a := s.rd npc r
      let fo : Nat := match n with
        | .wide v => v.toNat
        | _ => (immVal n .disp).toNat
      let f := a.val.toNat / 2 ^ (fo / 64) % 2 ^ (fo % 64)
      s.readable [r] = true → isFloaty a.ty = false → fo < 2 ^ 12 → fo % 64 ≠ 0 → fo / 64 + fo % 64 ≤ 32 →
      ∃ t, exec (.extrcti d r n) s = .next t ∧
        Writes s t npc d (if a.ty = .s ∧ 2 ^ (fo % 64 - 1) ≤ f then BitVec.ofInt 32 ((f : Int) - 2 ^ (fo % 64)) else BitVec.ofNat 32 f)
          a.ty .keep) ∧
  (∀ (d r rs rt : RegNum) (u : Bool) (s : State),
      let npc := s.npc 4
      let a := s.rd npc r
      let c := s.rd npc rt
      let fo := (s.rd npc rs).val.toNat
      let f := (c.val ++ a.val).toNat / 2 ^ (fo / 64) % 2 ^ (fo % 64)
      s.readable [r, rs, rt] = true → isFloaty a.ty = false → isFloaty c.ty = false → fo < 2 ^ 12 → fo % 64 ≠ 0 → fo % 64 ≤ 32 ∧ fo / 64 + fo % 64 ≤ 64 →
      ∃ t, exec (.extrctD d r rs rt 0 u) s = .next t ∧
        Writes s t npc d (if a.ty = .s ∧ 2 ^ (fo % 64 - 1) ≤ f then BitVec.ofInt 32 ((f : Int) - 2 ^ (fo % 64)) else BitVec.ofNat 32 f)
          a.ty (if u then .unstated else .keep)) ∧
  ∀ (d r : RegNum) (n : Imm5) (rt : RegNum) (u : Bool) (s : State),
      let npc := s.npc (4 + n.extLen)
      let a := s.rd npc r
      let c := s.rd npc rt
      let fo : Nat := match n with
        | .wide v => v.toNat
        | _ => (immVal n .disp).toNat
      let f := (c.val ++ a.val).toNat / 2 ^ (fo / 64) % 2 ^ (fo % 64)
      s.readable [r, rt] = true → isFloaty a.ty = false → isFloaty c.ty = false → fo < 2 ^ 12 → fo % 64 ≠ 0 → fo % 64 ≤ 32 ∧ fo / 64 + fo % 64 ≤ 64 →
      ∃ t, exec (.extrctiD d r n rt 0 u) s = .next t ∧
        Writes s t npc d (if a.ty = .s ∧ 2 ^ (fo % 64 - 1) ≤ f then BitVec.ofInt 32 ((f : Int) - 2 ^ (fo % 64)) else BitVec.ofNat 32 f)
          a.ty (if u then .unstated else .keep)

/-- O29, INSRT and INSRTI: every bit of the result, for both roles, and the frame. With the registers readable, R and T not float or Posit, zz = 0 and a field inside the word, the instruction completes: under the role R into T the bits of the field are the low bits of R and the others those of T, under the other role the reverse; the type is that of R. insrt_roles is an open parameter (entry 10): both values are covered. The descriptor of an immediate is that of EXTRCTI (entry 21); u = 1 leaves R28 without a value (D16). (43_shift_bitfield.md sections 1 and 4 (D16, D20, D40), 30_encoding.md section 4) -/
def Obligations.Insert : Prop :=
  (∀ (d r rs rt : RegNum) (u : Bool) (s : State),
      let npc := s.npc 4
      let fo := (s.rd npc rs).val.toNat
      let a := s.rd npc r
      let c := s.rd npc rt
      s.readable [r, rs, rt] = true → isFloaty a.ty = false → isFloaty c.ty = false → fo < 2 ^ 12 → fo % 64 ≠ 0 → fo / 64 + fo % 64 ≤ 32 →
      ∃ t v, exec (.insrt d r rs rt 0 u) s = .next t ∧ Writes s t npc d v a.ty (if u then .unstated else .keep) ∧
        (Config.insrtRoles = .rIntoT → ∀ k < 32, v.getLsbD k =
          if fo / 64 ≤ k ∧ k < fo / 64 + fo % 64 then a.val.getLsbD (k - fo / 64) else c.val.getLsbD k) ∧
        (Config.insrtRoles = .tIntoR → ∀ k < 32, v.getLsbD k =
          if fo / 64 ≤ k ∧ k < fo / 64 + fo % 64 then c.val.getLsbD (k - fo / 64) else a.val.getLsbD k)) ∧
  ∀ (d r : RegNum) (n : Imm5) (rt : RegNum) (u : Bool) (s : State),
      let npc := s.npc (4 + n.extLen)
      let fo : Nat := match n with
        | .wide v => v.toNat
        | _ => (immVal n .disp).toNat
      let a := s.rd npc r
      let c := s.rd npc rt
      s.readable [r, rt] = true → isFloaty a.ty = false → isFloaty c.ty = false → fo < 2 ^ 12 → fo % 64 ≠ 0 → fo / 64 + fo % 64 ≤ 32 →
      ∃ t v, exec (.insrti d r n rt 0 u) s = .next t ∧ Writes s t npc d v a.ty (if u then .unstated else .keep) ∧
        (Config.insrtRoles = .rIntoT → ∀ k < 32, v.getLsbD k =
          if fo / 64 ≤ k ∧ k < fo / 64 + fo % 64 then a.val.getLsbD (k - fo / 64) else c.val.getLsbD k) ∧
        (Config.insrtRoles = .tIntoR → ∀ k < 32, v.getLsbD k =
          if fo / 64 ≤ k ∧ k < fo / 64 + fo % 64 then c.val.getLsbD (k - fo / 64) else a.val.getLsbD k)

/-- O30, Where shifts and bit-field instructions stop, in all their forms. In every form, single and double length, register and immediate: a read of R28 while it holds no value faults; R (or T in the double forms) of type float or Posit is refused. A count of magnitude 32 or more in LSR and ASR (64 or more in SHR and double ASR), in a register or an immediate, is ShiftCountRange; the 13-bit immediate form is ShiftLocLen in all six immediate shifts; zz other than 0 in the double forms, and in MAX3, MIN3, MEDIAN3 and their immediate forms, is OperandModifier. A descriptor of 2^12 or more, a length of 0, a field longer than 32 bits or beyond its source is BitFieldRange in EXTRCT, double EXTRCT, INSRT and their immediate forms, where the 13-bit form gives its 12 bits (entry 21). The spec gives these refusals by its decisions D16, D18 to D20 and in R376. (43_shift_bitfield.md sections 1 to 4 (D18 to D20), 60_exceptions.md section 1 (D31), 30_encoding.md sections 4 and 7 (D16), 10_state.md sections 1 and 3 (D14), 46_irregular.md section 1) -/
def Obligations.ShiftStops : Prop :=
  (∀ c ∈ ([.lsr, .asr, .ror, .extrct] : List Form3), ∀ (d r rs : RegNum) (s : State),
    (s.readable [r, rs] = false → exec (c d r rs) s = .fault (.unwrittenRegister 28)) ∧
    (s.readable [r, rs] = true → isFloaty (s.rd (s.npc 3) r).ty = true → exec (c d r rs) s = .refused .floatOrPosit)) ∧
  (∀ c ∈ ([.lsri, .asri, .rori] : List Form3I), ∀ (d r : RegNum) (n : Imm5) (s : State), isWide n = false →
    (s.readable [r] = false → exec (c d r n) s = .fault (.unwrittenRegister 28)) ∧
    (s.readable [r] = true → isFloaty (s.rd (s.npc (3 + n.extLen)) r).ty = true → exec (c d r n) s = .refused .floatOrPosit)) ∧
  (∀ c ∈ ([.extrcti] : List Form3I), ∀ (d r : RegNum) (n : Imm5) (s : State),
    (s.readable [r] = false → exec (c d r n) s = .fault (.unwrittenRegister 28)) ∧
    (s.readable [r] = true → isFloaty (s.rd (s.npc (3 + n.extLen)) r).ty = true → exec (c d r n) s = .refused .floatOrPosit)) ∧
  (∀ c ∈ ([.shr, .asrD, .rorD, .extrctD, .insrt] : List Form4), ∀ (d r rs rt : RegNum) (u : Bool) (s : State),
    (s.readable [r, rs, rt] = false → exec (c d r rs rt 0 u) s = .fault (.unwrittenRegister 28)) ∧
    (s.readable [r, rs, rt] = true → (isFloaty (s.rd (s.npc 4) r).ty || isFloaty (s.rd (s.npc 4) rt).ty) = true → exec (c d r rs rt 0 u) s = .refused .floatOrPosit)) ∧
  (∀ c ∈ ([.shri, .asriD, .roriD] : List Form4I), ∀ (d r : RegNum) (n : Imm5) (rt : RegNum) (u : Bool) (s : State), isWide n = false →
    (s.readable [r, rt] = false → exec (c d r n rt 0 u) s = .fault (.unwrittenRegister 28)) ∧
    (s.readable [r, rt] = true → (isFloaty (s.rd (s.npc (4 + n.extLen)) r).ty || isFloaty (s.rd (s.npc (4 + n.extLen)) rt).ty) = true → exec (c d r n rt 0 u) s = .refused .floatOrPosit)) ∧
  (∀ c ∈ ([.extrctiD, .insrti] : List Form4I), ∀ (d r : RegNum) (n : Imm5) (rt : RegNum) (u : Bool) (s : State),
    (s.readable [r, rt] = false → exec (c d r n rt 0 u) s = .fault (.unwrittenRegister 28)) ∧
    (s.readable [r, rt] = true → (isFloaty (s.rd (s.npc (4 + n.extLen)) r).ty || isFloaty (s.rd (s.npc (4 + n.extLen)) rt).ty) = true → exec (c d r n rt 0 u) s = .refused .floatOrPosit)) ∧
  (∀ c ∈ ([.lsr, .asr] : List Form3), ∀ (d r rs : RegNum) (s : State),
    s.readable [r, rs] = true → isFloaty (s.rd (s.npc 3) r).ty = false → 32 ≤ |(s.rd (s.npc 3) rs).val.toInt| →
    exec (c d r rs) s = .refused .shiftCountRange) ∧
  (∀ c ∈ ([.lsri, .asri] : List Form3I), ∀ (d r : RegNum) (n : Imm5) (s : State), isWide n = false →
    s.readable [r] = true → isFloaty (s.rd (s.npc (3 + n.extLen)) r).ty = false → 32 ≤ |(immVal n .disp).toInt| →
    exec (c d r n) s = .refused .shiftCountRange) ∧
  (∀ c ∈ ([.shr, .asrD] : List Form4), ∀ (d r rs rt : RegNum) (u : Bool) (s : State),
    s.readable [r, rs, rt] = true → (isFloaty (s.rd (s.npc 4) r).ty || isFloaty (s.rd (s.npc 4) rt).ty) = false → 64 ≤ |(s.rd (s.npc 4) rs).val.toInt| →
    exec (c d r rs rt 0 u) s = .refused .shiftCountRange) ∧
  (∀ c ∈ ([.shri, .asriD] : List Form4I), ∀ (d r : RegNum) (n : Imm5) (rt : RegNum) (u : Bool) (s : State), isWide n = false →
    s.readable [r, rt] = true → (isFloaty (s.rd (s.npc (4 + n.extLen)) r).ty || isFloaty (s.rd (s.npc (4 + n.extLen)) rt).ty) = false → 64 ≤ |(immVal n .disp).toInt| →
    exec (c d r n rt 0 u) s = .refused .shiftCountRange) ∧
  (∀ c ∈ ([.lsri, .asri, .rori] : List Form3I), ∀ (d r : RegNum) (v : BitVec 12) (s : State),
    exec (c d r (.wide v)) s = .refused .shiftLocLen) ∧
  (∀ c ∈ ([.shri, .asriD, .roriD] : List Form4I), ∀ (d r rt : RegNum) (v : BitVec 12) (u : Bool) (s : State),
    exec (c d r (.wide v) rt 0 u) s = .refused .shiftLocLen) ∧
  (∀ c ∈ ([.shr, .asrD, .rorD, .extrctD, .insrt, .max3, .min3, .median3] : List Form4),
    ∀ (d r rs rt : RegNum) (zz : BitVec 2) (u : Bool) (s : State), zz ≠ 0 →
    exec (c d r rs rt zz u) s = .refused .operandModifier) ∧
  (∀ c ∈ ([.shri, .asriD, .roriD, .extrctiD, .insrti, .max3i, .min3i, .median3I] : List Form4I),
    ∀ (d r : RegNum) (n : Imm5) (rt : RegNum) (zz : BitVec 2) (u : Bool) (s : State), zz ≠ 0 →
    exec (c d r n rt zz u) s = .refused .operandModifier) ∧
  (∀ (d r rs : RegNum) (s : State),
    let fo : Nat := (s.rd (s.npc 3) rs).val.toNat
    s.readable [r, rs] = true → isFloaty (s.rd (s.npc 3) r).ty = false → (2 ^ 12 ≤ fo ∨ fo % 64 = 0 ∨ 32 < fo / 64 % 64 + fo % 64) →
    exec (.extrct d r rs) s = .refused .bitFieldRange) ∧
  (∀ (d r : RegNum) (n : Imm5) (s : State),
    let fo : Nat := match n with
      | .wide v => v.toNat
      | _ => (immVal n .disp).toNat
    s.readable [r] = true → isFloaty (s.rd (s.npc (3 + n.extLen)) r).ty = false → (2 ^ 12 ≤ fo ∨ fo % 64 = 0 ∨ 32 < fo / 64 % 64 + fo % 64) →
    exec (.extrcti d r n) s = .refused .bitFieldRange) ∧
  (∀ (d r rs rt : RegNum) (u : Bool) (s : State),
    let fo : Nat := (s.rd (s.npc 4) rs).val.toNat
    s.readable [r, rs, rt] = true → (isFloaty (s.rd (s.npc 4) r).ty || isFloaty (s.rd (s.npc 4) rt).ty) = false → (2 ^ 12 ≤ fo ∨ fo % 64 = 0 ∨ 32 < fo % 64 ∨ 64 < fo / 64 % 64 + fo % 64) →
    exec (.extrctD d r rs rt 0 u) s = .refused .bitFieldRange) ∧
  (∀ (d r : RegNum) (n : Imm5) (rt : RegNum) (u : Bool) (s : State),
    let fo : Nat := match n with
      | .wide v => v.toNat
      | _ => (immVal n .disp).toNat
    s.readable [r, rt] = true → (isFloaty (s.rd (s.npc (4 + n.extLen)) r).ty || isFloaty (s.rd (s.npc (4 + n.extLen)) rt).ty) = false → (2 ^ 12 ≤ fo ∨ fo % 64 = 0 ∨ 32 < fo % 64 ∨ 64 < fo / 64 % 64 + fo % 64) →
    exec (.extrctiD d r n rt 0 u) s = .refused .bitFieldRange) ∧
  (∀ (d r rs rt : RegNum) (u : Bool) (s : State),
    let fo : Nat := (s.rd (s.npc 4) rs).val.toNat
    s.readable [r, rs, rt] = true → (isFloaty (s.rd (s.npc 4) r).ty || isFloaty (s.rd (s.npc 4) rt).ty) = false → (2 ^ 12 ≤ fo ∨ fo % 64 = 0 ∨ 32 < fo / 64 % 64 + fo % 64) →
    exec (.insrt d r rs rt 0 u) s = .refused .bitFieldRange) ∧
  (∀ (d r : RegNum) (n : Imm5) (rt : RegNum) (u : Bool) (s : State),
    let fo : Nat := match n with
      | .wide v => v.toNat
      | _ => (immVal n .disp).toNat
    s.readable [r, rt] = true → (isFloaty (s.rd (s.npc (4 + n.extLen)) r).ty || isFloaty (s.rd (s.npc (4 + n.extLen)) rt).ty) = false → (2 ^ 12 ≤ fo ∨ fo % 64 = 0 ∨ 32 < fo / 64 % 64 + fo % 64) →
    exec (.insrti d r n rt 0 u) s = .refused .bitFieldRange)

/-- O31, ROR by k and then by -k restores the operand. After a ROR that completes, a ROR of its result whose count register can be read and holds the negated count completes and restores the value and type of the operand. (43_shift_bitfield.md section 2, 95_test_vectors.md section 13) -/
def Obligations.RotateInverse : Prop :=
  ∀ (d r k k' : RegNum) (s t : State), d ≠ 31 → exec (.ror d r k) s = .next t →
    t.readable [k'] = true → (t.rd (t.npc 3) k').val = -(s.rd (s.npc 3) k).val →
    ∃ v, exec (.ror d d k') t = .next v ∧ v.reg d = s.rd (s.npc 3) r

/-- O32, EXTRCT of an INSRT result gives the inserted field. After an INSRT that completes, EXTRCT of its result with the same descriptor register completes and gives the low bits of the inserted operand, extended by the type of R, for both values of insrt_roles. (43_shift_bitfield.md section 4, 95_test_vectors.md section 13) -/
def Obligations.ExtractInserted : Prop :=
  ∀ (d d' r rs rt : RegNum) (s t : State), d ≠ 31 → d' ≠ 31 → rs ≠ d → rs ≠ 31 →
    exec (.insrt d r rs rt 0 false) s = .next t →
    let len := (s.reg rs).val.toNat % 64
    let src := match Config.insrtRoles with
      | .rIntoT => (s.rd (s.npc 4) r).val
      | .tIntoR => (s.rd (s.npc 4) rt).val
    ∃ v, exec (.extrct d' d rs) t = .next v ∧
      v.reg d' = { val := lengthen (s.rd (s.npc 4) r).ty (src.extractLsb' 0 len), ty := (s.rd (s.npc 4) r).ty }

/-- O33, The 24-bit loads: address, value, type and frame. For LDU, LD, FLD and PLD of 8, 16, 24 and 32 bits, base plus scaled index and base plus offset: when the index register can be read and the map holds the bytes at the effective address the load completes, D gets their little-endian number lengthened by sign for LD and by zeros otherwise, with the type the mnemonic names; D = R31 is a jump; nothing else changes. (44_loadstore.md sections 1 to 4 (D12, D21), 20_memory.md section 1 (D3), 10_state.md section 4) -/
def Obligations.LoadShort : Prop :=
  (∀ p ∈ ([(.ldu8Dbj, .u, 1), (.ldu16Dbj, .u, 2), (.ldu24Dbj, .u, 3), (.ldu32Dbj, .u, 4),
      (.ld8Dbj, .s, 1), (.ld16Dbj, .s, 2), (.ld24Dbj, .s, 3), (.ld32Dbj, .s, 4),
      (.fld8Dbj, .f, 1), (.fld16Dbj, .f, 2), (.fld24Dbj, .f, 3), (.fld32Dbj, .f, 4),
      (.pld8Dbj, .p, 1), (.pld16Dbj, .p, 2), (.pld24Dbj, .p, 3), (.pld32Dbj, .p, 4)] :
      List (Form3 × TyCode × Nat)),
    ∀ (d b j : RegNum) (s : State),
      let npc := s.npc 3
      let ea := s.rdBase npc b + s.rdIndex npc j * BitVec.ofNat 32 p.2.2
      let v := ((List.range p.2.2).map fun k => (s.mem.byte (ea + BitVec.ofNat 32 k).toNat).toNat * 256 ^ k).sum
      s.readable [j] = true → Held s ea p.2.2 →
      ∃ t, exec (p.1 d b j) s = .next t ∧ Writes s t npc d
        (if p.2.1 = .s ∧ 2 ^ (8 * p.2.2 - 1) ≤ v then BitVec.ofInt 32 ((v : Int) - 2 ^ (8 * p.2.2)) else BitVec.ofNat 32 v) p.2.1 .keep) ∧
  ∀ p ∈ ([(.ldu8Dbn, .u, 1), (.ldu16Dbn, .u, 2), (.ldu24Dbn, .u, 3), (.ldu32Dbn, .u, 4),
      (.ld8Dbn, .s, 1), (.ld16Dbn, .s, 2), (.ld24Dbn, .s, 3), (.ld32Dbn, .s, 4),
      (.fld8Dbn, .f, 1), (.fld16Dbn, .f, 2), (.fld24Dbn, .f, 3), (.fld32Dbn, .f, 4),
      (.pld8Dbn, .p, 1), (.pld16Dbn, .p, 2), (.pld24Dbn, .p, 3), (.pld32Dbn, .p, 4)] :
      List (Form3I × TyCode × Nat)),
    ∀ (d b : RegNum) (n : Imm5) (s : State),
      let npc := s.npc (3 + n.extLen)
      let ea := s.rdBase npc b + immVal n .disp
      let v := ((List.range p.2.2).map fun k => (s.mem.byte (ea + BitVec.ofNat 32 k).toNat).toNat * 256 ^ k).sum
      Held s ea p.2.2 →
      ∃ t, exec (p.1 d b n) s = .next t ∧ Writes s t npc d
        (if p.2.1 = .s ∧ 2 ^ (8 * p.2.2 - 1) ≤ v then BitVec.ofInt 32 ((v : Int) - 2 ^ (8 * p.2.2)) else BitVec.ofNat 32 v) p.2.1 .keep

/-- O34, The 32-bit loads: address, value, type and frame. As the 24-bit loads, with base plus index times Y times the data size plus a register or an immediate, when the index and offset registers can be read and u = 0. (44_loadstore.md sections 1 to 4 (D12, D21, D22, D43), 20_memory.md section 1 (D3), 10_state.md section 4) -/
def Obligations.LoadLong : Prop :=
  (∀ p ∈ ([(.ldu8Dbjs, .u, 1), (.ldu16Dbjs, .u, 2), (.ldu24Dbjs, .u, 3), (.ldu32Dbjs, .u, 4),
      (.ld8Dbjs, .s, 1), (.ld16Dbjs, .s, 2), (.ld24Dbjs, .s, 3), (.ld32Dbjs, .s, 4),
      (.fld8Dbjs, .f, 1), (.fld16Dbjs, .f, 2), (.fld24Dbjs, .f, 3), (.fld32Dbjs, .f, 4),
      (.pld8Dbjs, .p, 1), (.pld16Dbjs, .p, 2), (.pld24Dbjs, .p, 3), (.pld32Dbjs, .p, 4)] :
      List (Form4 × TyCode × Nat)),
    ∀ (d b j rs : RegNum) (y : BitVec 2) (s : State),
      let npc := s.npc 4
      let ea := s.rdBase npc b + s.rdIndex npc j * BitVec.ofNat 32 ((y.toNat + 1) * p.2.2) + (s.rd npc rs).val
      let v := ((List.range p.2.2).map fun k => (s.mem.byte (ea + BitVec.ofNat 32 k).toNat).toNat * 256 ^ k).sum
      s.readable [rs, j] = true → Held s ea p.2.2 →
      ∃ t, exec (p.1 d b j rs y false) s = .next t ∧ Writes s t npc d
        (if p.2.1 = .s ∧ 2 ^ (8 * p.2.2 - 1) ≤ v then BitVec.ofInt 32 ((v : Int) - 2 ^ (8 * p.2.2)) else BitVec.ofNat 32 v) p.2.1 .keep) ∧
  ∀ p ∈ ([(.ldu8Dbjn, .u, 1), (.ldu16Dbjn, .u, 2), (.ldu24Dbjn, .u, 3), (.ldu32Dbjn, .u, 4),
      (.ld8Dbjn, .s, 1), (.ld16Dbjn, .s, 2), (.ld24Dbjn, .s, 3), (.ld32Dbjn, .s, 4),
      (.fld8Dbjn, .f, 1), (.fld16Dbjn, .f, 2), (.fld24Dbjn, .f, 3), (.fld32Dbjn, .f, 4),
      (.pld8Dbjn, .p, 1), (.pld16Dbjn, .p, 2), (.pld24Dbjn, .p, 3), (.pld32Dbjn, .p, 4)] :
      List (Form4X × TyCode × Nat)),
    ∀ (d b j : RegNum) (n : Imm5) (y : BitVec 2) (s : State),
      let npc := s.npc (4 + n.extLen)
      let ea := s.rdBase npc b + s.rdIndex npc j * BitVec.ofNat 32 ((y.toNat + 1) * p.2.2) + immVal n .disp
      let v := ((List.range p.2.2).map fun k => (s.mem.byte (ea + BitVec.ofNat 32 k).toNat).toNat * 256 ^ k).sum
      s.readable [j] = true → Held s ea p.2.2 →
      ∃ t, exec (p.1 d b j n y false) s = .next t ∧ Writes s t npc d
        (if p.2.1 = .s ∧ 2 ^ (8 * p.2.2 - 1) ≤ v then BitVec.ofInt 32 ((v : Int) - 2 ^ (8 * p.2.2)) else BitVec.ofNat 32 v) p.2.1 .keep

/-- O35, Where a load, an LEA and a CALL stop. A 32-bit load, LEA or CALL with u = 1 is refused as LoadUBit (D22). An index or offset register R28 that holds no value faults, in the base position it does not. The first byte of a load that the map does not hold is a memory access fault at its address (D44), in the 24-bit forms and, with u = 0, in the 32-bit forms. Which byte is named is the lowest (entry 7). (44_loadstore.md sections 1 and 6 (D22), 20_memory.md section 1 (D44), 10_state.md sections 1 and 3 (D14), 45_control.md section 3, 60_exceptions.md section 1 (D31)) -/
def Obligations.LoadStops : Prop :=
  (∀ p ∈ ([(.ldu8Dbj, 1), (.ldu16Dbj, 2), (.ldu24Dbj, 3), (.ldu32Dbj, 4),
      (.ld8Dbj, 1), (.ld16Dbj, 2), (.ld24Dbj, 3), (.ld32Dbj, 4),
      (.fld8Dbj, 1), (.fld16Dbj, 2), (.fld24Dbj, 3), (.fld32Dbj, 4),
      (.pld8Dbj, 1), (.pld16Dbj, 2), (.pld24Dbj, 3), (.pld32Dbj, 4)] : List (Form3 × Nat)),
    ∀ (d b j' : RegNum) (s : State),
      let ea := eaIndex s (s.npc 3) b j' p.2
      (s.readable [j'] = false → exec (p.1 d b j') s = .fault (.unwrittenRegister 28)) ∧
      ∀ k < p.2, s.readable [j'] = true → (∀ j < k, (s.mem.kind (ea + BitVec.ofNat 32 j).toNat).isSome = true) →
        s.mem.kind (ea + BitVec.ofNat 32 k).toNat = none →
        exec (p.1 d b j') s = .fault (.memoryAccess (ea + BitVec.ofNat 32 k))) ∧
  (∀ p ∈ ([(.ldu8Dbn, 1), (.ldu16Dbn, 2), (.ldu24Dbn, 3), (.ldu32Dbn, 4),
      (.ld8Dbn, 1), (.ld16Dbn, 2), (.ld24Dbn, 3), (.ld32Dbn, 4),
      (.fld8Dbn, 1), (.fld16Dbn, 2), (.fld24Dbn, 3), (.fld32Dbn, 4),
      (.pld8Dbn, 1), (.pld16Dbn, 2), (.pld24Dbn, 3), (.pld32Dbn, 4)] : List (Form3I × Nat)),
    ∀ (d b : RegNum) (n : Imm5) (s : State),
      let ea := eaOffset s (s.npc (3 + n.extLen)) b n
      ∀ k < p.2, (∀ j < k, (s.mem.kind (ea + BitVec.ofNat 32 j).toNat).isSome = true) →
        s.mem.kind (ea + BitVec.ofNat 32 k).toNat = none →
        exec (p.1 d b n) s = .fault (.memoryAccess (ea + BitVec.ofNat 32 k))) ∧
  (∀ p ∈ ([(.ldu8Dbjs, 1), (.ldu16Dbjs, 2), (.ldu24Dbjs, 3), (.ldu32Dbjs, 4),
      (.ld8Dbjs, 1), (.ld16Dbjs, 2), (.ld24Dbjs, 3), (.ld32Dbjs, 4),
      (.fld8Dbjs, 1), (.fld16Dbjs, 2), (.fld24Dbjs, 3), (.fld32Dbjs, 4),
      (.pld8Dbjs, 1), (.pld16Dbjs, 2), (.pld24Dbjs, 3), (.pld32Dbjs, 4)] : List (Form4 × Nat)),
    ∀ (d b j' rs : RegNum) (y : BitVec 2) (s : State),
      let ea := eaIndexReg s (s.npc 4) b j' rs (scaleY y * p.2)
      exec (p.1 d b j' rs y true) s = .refused .loadUBit ∧
      (s.readable [rs, j'] = false → exec (p.1 d b j' rs y false) s = .fault (.unwrittenRegister 28)) ∧
      ∀ k < p.2, s.readable [rs, j'] = true → (∀ j < k, (s.mem.kind (ea + BitVec.ofNat 32 j).toNat).isSome = true) →
        s.mem.kind (ea + BitVec.ofNat 32 k).toNat = none →
        exec (p.1 d b j' rs y false) s = .fault (.memoryAccess (ea + BitVec.ofNat 32 k))) ∧
  (∀ p ∈ ([(.ldu8Dbjn, 1), (.ldu16Dbjn, 2), (.ldu24Dbjn, 3), (.ldu32Dbjn, 4),
      (.ld8Dbjn, 1), (.ld16Dbjn, 2), (.ld24Dbjn, 3), (.ld32Dbjn, 4),
      (.fld8Dbjn, 1), (.fld16Dbjn, 2), (.fld24Dbjn, 3), (.fld32Dbjn, 4),
      (.pld8Dbjn, 1), (.pld16Dbjn, 2), (.pld24Dbjn, 3), (.pld32Dbjn, 4)] : List (Form4X × Nat)),
    ∀ (d b j' : RegNum) (n : Imm5) (y : BitVec 2) (s : State),
      let ea := eaIndexImm s (s.npc (4 + n.extLen)) b j' n (scaleY y * p.2)
      exec (p.1 d b j' n y true) s = .refused .loadUBit ∧
      (s.readable [j'] = false → exec (p.1 d b j' n y false) s = .fault (.unwrittenRegister 28)) ∧
      ∀ k < p.2, s.readable [j'] = true → (∀ j < k, (s.mem.kind (ea + BitVec.ofNat 32 j).toNat).isSome = true) →
        s.mem.kind (ea + BitVec.ofNat 32 k).toNat = none →
        exec (p.1 d b j' n y false) s = .fault (.memoryAccess (ea + BitVec.ofNat 32 k))) ∧
  (∀ c ∈ ([.lea8Dbjs, .lea16Dbjs, .lea24Dbjs, .lea32Dbjs, .callDbjs] : List Form4),
    ∀ (d b j rs : RegNum) (y : BitVec 2) (s : State), exec (c d b j rs y true) s = .refused .loadUBit ∧
      (s.readable [rs, j] = false → exec (c d b j rs y false) s = .fault (.unwrittenRegister 28))) ∧
  (∀ c ∈ ([.lea8Dbjn, .lea16Dbjn, .lea24Dbjn, .lea32Dbjn, .callDbjn] : List Form4X),
    ∀ (d b j : RegNum) (n : Imm5) (y : BitVec 2) (s : State), exec (c d b j n y true) s = .refused .loadUBit ∧
      (s.readable [j] = false → exec (c d b j n y false) s = .fault (.unwrittenRegister 28))) ∧
  ∀ (d b j : RegNum) (s : State), s.readable [j] = false → exec (.callDbj d b j) s = .fault (.unwrittenRegister 28)

/-- O36, The lengthening function. For data of 1 to 4 bytes: lengthen sign-extends for type S and zero-extends for U, F and P, and for 4 bytes every type gives the datum itself. LDI8 to LDI32 use it. (R37) -/
def Obligations.Lengthen : Prop :=
  (∀ k ∈ [1, 2, 3, 4], ∀ v : BitVec (8 * k), lengthen .u v = v.setWidth 32 ∧ lengthen .s v = v.signExtend 32 ∧
    lengthen .f v = v.setWidth 32 ∧ lengthen .p v = v.setWidth 32) ∧
  ∀ (ty : TyCode) (v : BitVec 32), lengthen ty v = v

/-- O37, LDI8, LDI16, LDI24, LDI32: value, type and frame. A typed immediate load always completes: D gets the datum lengthened by the type the instruction names, with that type; D = R31 is an absolute jump; no residue and nothing else changes. (44_loadstore.md section 5, 10_state.md section 4) -/
def Obligations.LoadImmediate : Prop :=
  ∀ (d : RegNum) (ty : TyCode) (s : State),
    (∀ n : BitVec 8, ∃ t, exec (.ldi8 d ty n) s = .next t ∧ Writes s t (s.npc 3) d (lengthen ty n) ty .keep) ∧
    (∀ n : BitVec 16, ∃ t, exec (.ldi16 d ty n) s = .next t ∧ Writes s t (s.npc 4) d (lengthen ty n) ty .keep) ∧
    (∀ n : BitVec 24, ∃ t, exec (.ldi24 d ty n) s = .next t ∧ Writes s t (s.npc 5) d (lengthen ty n) ty .keep) ∧
    ∀ n : BitVec 32, ∃ t, exec (.ldi32 d ty n) s = .next t ∧ Writes s t (s.npc 6) d n ty .keep

/-- O38, LEA8 to LEA32: the address and the frame. With u = 0 the instruction completes whenever the index and offset registers can be read: D gets the effective address with type U; no memory is touched. (44_loadstore.md sections 1 and 6 (D12, D21, D22, D40)) -/
def Obligations.LoadAddress : Prop :=
  (∀ p ∈ ([(.lea8Dbjs, 1), (.lea16Dbjs, 2), (.lea24Dbjs, 3), (.lea32Dbjs, 4)] : List (Form4 × Nat)),
    ∀ (d b j rs : RegNum) (y : BitVec 2) (s : State),
      let npc := s.npc 4
      s.readable [rs, j] = true → ∃ t, exec (p.1 d b j rs y false) s = .next t ∧
        Writes s t npc d (s.rdBase npc b + s.rdIndex npc j * BitVec.ofNat 32 ((y.toNat + 1) * p.2) + (s.rd npc rs).val)
          .u .keep) ∧
  ∀ p ∈ ([(.lea8Dbjn, 1), (.lea16Dbjn, 2), (.lea24Dbjn, 3), (.lea32Dbjn, 4)] : List (Form4X × Nat)),
    ∀ (d b j : RegNum) (n : Imm5) (y : BitVec 2) (s : State),
      let npc := s.npc (4 + n.extLen)
      s.readable [j] = true → ∃ t, exec (p.1 d b j n y false) s = .next t ∧
        Writes s t npc d (s.rdBase npc b + s.rdIndex npc j * BitVec.ofNat 32 ((y.toNat + 1) * p.2) + immVal n .disp)
          .u .keep

/-- O39, The 24-bit stores: address, bytes and frame. In a state whose memory is in canonical form, when the registers read hold values and every byte of the access is ram the store completes: the low bytes of D are stored at the effective address, least significant first; every byte outside them, every register and everything else is as before. (44_loadstore.md sections 1 and 7 (D12, D21, D24), 20_memory.md section 1 (D3)) -/
def Obligations.StoreShort : Prop :=
  (∀ p ∈ ([(.st8Dbj, 1), (.st16Dbj, 2), (.st24Dbj, 3), (.st32Dbj, 4)] : List (Form3 × Nat)),
    ∀ (d b j : RegNum) (s : State),
      let npc := s.npc 3
      let ea := eaIndex s npc b j p.2
      s.Inv → s.readable [d, j] = true → Ram s ea p.2 → ∃ t, exec (p.1 d b j) s = .next t ∧ Stores s t npc ea p.2 (s.rd npc d).val) ∧
  ∀ p ∈ ([(.st8Dbn, 1), (.st16Dbn, 2), (.st24Dbn, 3), (.st32Dbn, 4)] : List (Form3I × Nat)),
    ∀ (d b : RegNum) (n : Imm5) (s : State),
      let npc := s.npc (3 + n.extLen)
      let ea := eaOffset s npc b n
      s.Inv → s.readable [d] = true → Ram s ea p.2 → ∃ t, exec (p.1 d b n) s = .next t ∧ Stores s t npc ea p.2 (s.rd npc d).val

/-- O40, The 32-bit stores of a register: address, bytes and frame. As the 24-bit stores, with the addresses of the 32-bit forms. (44_loadstore.md sections 1 and 7 (D12, D21, D24), 20_memory.md section 1 (D3)) -/
def Obligations.StoreLong : Prop :=
  (∀ p ∈ ([(.st8Dbjs, 1), (.st16Dbjs, 2), (.st24Dbjs, 3), (.st32Dbjs, 4)] : List (FormS × Nat)),
    ∀ (d b j rs : RegNum) (y : BitVec 2) (s : State),
      let npc := s.npc 4
      let ea := eaIndexReg s npc b j rs (scaleY y * p.2)
      s.Inv → s.readable [rs, d, j] = true → Ram s ea p.2 → ∃ t, exec (p.1 d b j rs y) s = .next t ∧ Stores s t npc ea p.2 (s.rd npc d).val) ∧
  ∀ p ∈ ([(.st8Dbjn, 1), (.st16Dbjn, 2), (.st24Dbjn, 3), (.st32Dbjn, 4)] : List (FormSI × Nat)),
    ∀ (d b j : RegNum) (n : Imm5) (y : BitVec 2) (s : State),
      let npc := s.npc (4 + n.extLen)
      let ea := eaIndexImm s npc b j n (scaleY y * p.2)
      s.Inv → s.readable [d, j] = true → Ram s ea p.2 → ∃ t, exec (p.1 d b j n y) s = .next t ∧ Stores s t npc ea p.2 (s.rd npc d).val

/-- O41, The stores of an immediate: address, bytes and frame. As the other 32-bit stores, with the low bytes of the immediate m, read as a displacement. (44_loadstore.md sections 1 and 7 (D12, D21, D23), 30_encoding.md section 4, 20_memory.md section 1 (D3)) -/
def Obligations.StoreImmediate : Prop :=
  (∀ p ∈ ([(.st8Mbjs, 1), (.st16Mbjs, 2), (.st24Mbjs, 3), (.st32Mbjs, 4)] : List (FormM × Nat)),
    ∀ (m : Imm5) (b j rs : RegNum) (y : BitVec 2) (s : State),
      let npc := s.npc (4 + m.extLen)
      let ea := eaIndexReg s npc b j rs (scaleY y * p.2)
      s.Inv → s.readable [rs, j] = true → Ram s ea p.2 → ∃ t, exec (p.1 m b j rs y) s = .next t ∧ Stores s t npc ea p.2 (immVal m .disp)) ∧
  ∀ p ∈ ([(.st8Mbjn, 1), (.st16Mbjn, 2), (.st24Mbjn, 3), (.st32Mbjn, 4)] : List (FormMI × Nat)),
    ∀ (m : Imm5) (b j : RegNum) (n : Imm5) (y : BitVec 2) (s : State),
      let npc := s.npc (4 + n.extLen + m.extLen)
      let ea := eaIndexImm s npc b j n (scaleY y * p.2)
      s.Inv → s.readable [j] = true → Ram s ea p.2 → ∃ t, exec (p.1 m b j n y) s = .next t ∧ Stores s t npc ea p.2 (immVal m .disp)

/-- O42, Where a store stops. A store that reads R28 while it holds no value, as the register stored or in the index or offset position, faults. With its registers readable, one whose access reaches a byte the map does not hold is a memory access fault at the first such byte; one whose bytes are all held and that reaches text is a store-to-text fault at the first text byte. Nothing is written (20_memory.md R71 by the decision D34; the order and the byte named are entry 7). (44_loadstore.md section 7, 20_memory.md sections 1 and 2 (D34, D44), 60_exceptions.md section 1 (D31), 10_state.md sections 1 and 3 (D14)) -/
def Obligations.StoreStops : Prop :=
  (∀ p ∈ ([(.st8Dbj, 1), (.st16Dbj, 2), (.st24Dbj, 3), (.st32Dbj, 4)] : List (Form3 × Nat)), ∀ (d b j : RegNum) (s : State),
      let ea := eaIndex s (s.npc 3) b j p.2
      (s.readable [d, j] = false → exec (p.1 d b j) s = .fault (.unwrittenRegister 28)) ∧
      (∀ k < p.2, s.readable [d, j] = true → (∀ i < k, (s.mem.kind (ea + BitVec.ofNat 32 i).toNat).isSome = true) →
        s.mem.kind (ea + BitVec.ofNat 32 k).toNat = none →
        exec (p.1 d b j) s = .fault (.memoryAccess (ea + BitVec.ofNat 32 k))) ∧
      ∀ k < p.2, s.readable [d, j] = true → Held s ea p.2 →
        (∀ i < k, s.mem.kind (ea + BitVec.ofNat 32 i).toNat = some .ram) →
        s.mem.kind (ea + BitVec.ofNat 32 k).toNat = some .text →
        exec (p.1 d b j) s = .fault (.storeToText (ea + BitVec.ofNat 32 k))) ∧
  (∀ p ∈ ([(.st8Dbn, 1), (.st16Dbn, 2), (.st24Dbn, 3), (.st32Dbn, 4)] : List (Form3I × Nat)), ∀ (d b : RegNum) (n : Imm5) (s : State),
      let ea := eaOffset s (s.npc (3 + n.extLen)) b n
      (s.readable [d] = false → exec (p.1 d b n) s = .fault (.unwrittenRegister 28)) ∧
      (∀ k < p.2, s.readable [d] = true → (∀ i < k, (s.mem.kind (ea + BitVec.ofNat 32 i).toNat).isSome = true) →
        s.mem.kind (ea + BitVec.ofNat 32 k).toNat = none →
        exec (p.1 d b n) s = .fault (.memoryAccess (ea + BitVec.ofNat 32 k))) ∧
      ∀ k < p.2, s.readable [d] = true → Held s ea p.2 →
        (∀ i < k, s.mem.kind (ea + BitVec.ofNat 32 i).toNat = some .ram) →
        s.mem.kind (ea + BitVec.ofNat 32 k).toNat = some .text →
        exec (p.1 d b n) s = .fault (.storeToText (ea + BitVec.ofNat 32 k))) ∧
  (∀ p ∈ ([(.st8Dbjs, 1), (.st16Dbjs, 2), (.st24Dbjs, 3), (.st32Dbjs, 4)] : List (FormS × Nat)), ∀ (d b j rs : RegNum) (y : BitVec 2) (s : State),
      let ea := eaIndexReg s (s.npc 4) b j rs (scaleY y * p.2)
      (s.readable [rs, d, j] = false → exec (p.1 d b j rs y) s = .fault (.unwrittenRegister 28)) ∧
      (∀ k < p.2, s.readable [rs, d, j] = true → (∀ i < k, (s.mem.kind (ea + BitVec.ofNat 32 i).toNat).isSome = true) →
        s.mem.kind (ea + BitVec.ofNat 32 k).toNat = none →
        exec (p.1 d b j rs y) s = .fault (.memoryAccess (ea + BitVec.ofNat 32 k))) ∧
      ∀ k < p.2, s.readable [rs, d, j] = true → Held s ea p.2 →
        (∀ i < k, s.mem.kind (ea + BitVec.ofNat 32 i).toNat = some .ram) →
        s.mem.kind (ea + BitVec.ofNat 32 k).toNat = some .text →
        exec (p.1 d b j rs y) s = .fault (.storeToText (ea + BitVec.ofNat 32 k))) ∧
  (∀ p ∈ ([(.st8Dbjn, 1), (.st16Dbjn, 2), (.st24Dbjn, 3), (.st32Dbjn, 4)] : List (FormSI × Nat)), ∀ (d b j : RegNum) (n : Imm5) (y : BitVec 2) (s : State),
      let ea := eaIndexImm s (s.npc (4 + n.extLen)) b j n (scaleY y * p.2)
      (s.readable [d, j] = false → exec (p.1 d b j n y) s = .fault (.unwrittenRegister 28)) ∧
      (∀ k < p.2, s.readable [d, j] = true → (∀ i < k, (s.mem.kind (ea + BitVec.ofNat 32 i).toNat).isSome = true) →
        s.mem.kind (ea + BitVec.ofNat 32 k).toNat = none →
        exec (p.1 d b j n y) s = .fault (.memoryAccess (ea + BitVec.ofNat 32 k))) ∧
      ∀ k < p.2, s.readable [d, j] = true → Held s ea p.2 →
        (∀ i < k, s.mem.kind (ea + BitVec.ofNat 32 i).toNat = some .ram) →
        s.mem.kind (ea + BitVec.ofNat 32 k).toNat = some .text →
        exec (p.1 d b j n y) s = .fault (.storeToText (ea + BitVec.ofNat 32 k))) ∧
  (∀ p ∈ ([(.st8Mbjs, 1), (.st16Mbjs, 2), (.st24Mbjs, 3), (.st32Mbjs, 4)] : List (FormM × Nat)), ∀ (m : Imm5) (b j rs : RegNum) (y : BitVec 2) (s : State),
      let ea := eaIndexReg s (s.npc (4 + m.extLen)) b j rs (scaleY y * p.2)
      (s.readable [rs, j] = false → exec (p.1 m b j rs y) s = .fault (.unwrittenRegister 28)) ∧
      (∀ k < p.2, s.readable [rs, j] = true → (∀ i < k, (s.mem.kind (ea + BitVec.ofNat 32 i).toNat).isSome = true) →
        s.mem.kind (ea + BitVec.ofNat 32 k).toNat = none →
        exec (p.1 m b j rs y) s = .fault (.memoryAccess (ea + BitVec.ofNat 32 k))) ∧
      ∀ k < p.2, s.readable [rs, j] = true → Held s ea p.2 →
        (∀ i < k, s.mem.kind (ea + BitVec.ofNat 32 i).toNat = some .ram) →
        s.mem.kind (ea + BitVec.ofNat 32 k).toNat = some .text →
        exec (p.1 m b j rs y) s = .fault (.storeToText (ea + BitVec.ofNat 32 k))) ∧
  ∀ p ∈ ([(.st8Mbjn, 1), (.st16Mbjn, 2), (.st24Mbjn, 3), (.st32Mbjn, 4)] : List (FormMI × Nat)), ∀ (m : Imm5) (b j : RegNum) (n : Imm5) (y : BitVec 2) (s : State),
      let ea := eaIndexImm s (s.npc (4 + n.extLen + m.extLen)) b j n (scaleY y * p.2)
      (s.readable [j] = false → exec (p.1 m b j n y) s = .fault (.unwrittenRegister 28)) ∧
      (∀ k < p.2, s.readable [j] = true → (∀ i < k, (s.mem.kind (ea + BitVec.ofNat 32 i).toNat).isSome = true) →
        s.mem.kind (ea + BitVec.ofNat 32 k).toNat = none →
        exec (p.1 m b j n y) s = .fault (.memoryAccess (ea + BitVec.ofNat 32 k))) ∧
      ∀ k < p.2, s.readable [j] = true → Held s ea p.2 →
        (∀ i < k, s.mem.kind (ea + BitVec.ofNat 32 i).toNat = some .ram) →
        s.mem.kind (ea + BitVec.ofNat 32 k).toNat = some .text →
        exec (p.1 m b j n y) s = .fault (.storeToText (ea + BitVec.ofNat 32 k))

/-- O43, A load sees the bytes the store before it left. After an ST32 that completes, LDU32 of the same base register and offset completes with the value stored, and LDU8 with its bits 7:0, of type U, in a state whose memory was in canonical form. (20_memory.md sections 1 and 2 (D3, D33), 44_loadstore.md sections 2 and 7) -/
def Obligations.LoadAfterStore : Prop :=
  ∀ (d d' b : RegNum) (n : Imm5) (s t : State), d' ≠ 31 → b ≠ 31 → s.Inv → exec (.st32Dbn d b n) s = .next t →
    (∃ v, exec (.ldu32Dbn d' b n) t = .next v ∧
      v.reg d' = { val := (s.rd (s.npc (3 + n.extLen)) d).val, ty := .u }) ∧
    ∃ v, exec (.ldu8Dbn d' b n) t = .next v ∧
      v.reg d' = { val := (s.rd (s.npc (3 + n.extLen)) d).val &&& 0xFF, ty := .u }

/-- O44, BR in both formats: encoding, target, range and frame. BR has opcode 0x04 with a 16-bit displacement in bits 23:8 and opcode 0x44 with a 24-bit displacement in bits 31:8; it always completes, the pc becomes the address after the instruction plus the sign-extended displacement, modulo 2^32, and no register is read or written; the displacement lies in the range the rule gives. The rule's three worked encodings are among the cases. (R265) -/
def Obligations.Branch : Prop :=
  (∀ (n : BitVec 16) (s : State),
    encode (.br (.d16 n)) = [0x04, n.extractLsb' 0 8, n.extractLsb' 8 8] ∧
    (∃ t, exec (.br (.d16 n)) s = .next t ∧ Jumps s t (s.pc + 3 + n.signExtend 32)) ∧
    -32768 ≤ (n.signExtend 32).toInt ∧ (n.signExtend 32).toInt ≤ 32767) ∧
  (∀ (n : BitVec 24) (s : State),
    encode (.br (.d24 n)) = [0x44, n.extractLsb' 0 8, n.extractLsb' 8 8, n.extractLsb' 16 8] ∧
    (∃ t, exec (.br (.d24 n)) s = .next t ∧ Jumps s t (s.pc + 4 + n.signExtend 32)) ∧
    -8388608 ≤ (n.signExtend 32).toInt ∧ (n.signExtend 32).toInt ≤ 8388607) ∧
  decode [0x04, 0x06, 0x00] = .ok (.br (.d16 6)) ∧ decode [0x04, 0xFD, 0xFF] = .ok (.br (.d16 0xFFFD)) ∧
  decode [0x44, 0x00, 0x10, 0x00] = .ok (.br (.d24 0x1000)) ∧ decode [0x44, 0xFC, 0xFF, 0xFF] = .ok (.br (.d24 0xFFFFFC)) ∧
  ∀ s : State, (∀ t, exec (.br (.d16 0xFFFD)) s = .next t → t.pc = s.pc) ∧
    ∀ t, exec (.br (.d24 0xFFFFFC)) s = .next t → t.pc = s.pc

/-- O45, CALLR, and CALL in its four forms: link, target and frame. CALLR always completes: R0 gets the address after the instruction with type U (D40), the pc becomes that address plus the sign-extended displacement. CALL completes when its index and offset registers can be read (with u = 0 in the 32-bit forms): D gets the address after the instruction with type U unless D is R31, and the pc becomes the effective address, computed before D is written; the index is scaled by Y only. (45_control.md section 3 (D10, D22, D29, D40), 44_loadstore.md section 1 (D12, D21)) -/
def Obligations.Call : Prop :=
  (∀ (n : BitVec 16) (s : State), ∃ t, exec (.callr (.d16 n)) s = .next t ∧
    Calls s t (s.npc 3 + n.signExtend 32) 0 (s.npc 3)) ∧
  (∀ (n : BitVec 24) (s : State), ∃ t, exec (.callr (.d24 n)) s = .next t ∧
    Calls s t (s.npc 4 + n.signExtend 32) 0 (s.npc 4)) ∧
  (∀ (d b j : RegNum) (s : State), s.readable [j] = true → ∃ t, exec (.callDbj d b j) s = .next t ∧
    Calls s t (s.rdBase (s.npc 3) b + s.rdIndex (s.npc 3) j) d (s.npc 3)) ∧
  (∀ (d b : RegNum) (n : Imm5) (s : State), ∃ t, exec (.callDbn d b n) s = .next t ∧
    Calls s t (s.rdBase (s.npc (3 + n.extLen)) b + immVal n .disp) d (s.npc (3 + n.extLen))) ∧
  (∀ (d b j rs : RegNum) (y : BitVec 2) (s : State), s.readable [rs, j] = true → ∃ t, exec (.callDbjs d b j rs y false) s = .next t ∧
    Calls s t (s.rdBase (s.npc 4) b + s.rdIndex (s.npc 4) j * BitVec.ofNat 32 (y.toNat + 1) + (s.rd (s.npc 4) rs).val) d
      (s.npc 4)) ∧
  ∀ (d b j : RegNum) (n : Imm5) (y : BitVec 2) (s : State),
    let npc := s.npc (4 + n.extLen)
    s.readable [j] = true → ∃ t, exec (.callDbjn d b j n y false) s = .next t ∧
      Calls s t (s.rdBase npc b + s.rdIndex npc j * BitVec.ofNat 32 (y.toNat + 1) + immVal n .disp) d npc

/-- O46, BRZ to BROD in both formats: condition, target and frame. With the register tested readable and of type U or S the branch completes: it is taken when the condition of its mnemonic holds of the value read by that type, and then the pc is the address after the instruction plus the sign-extended displacement, else it is that address; nothing else changes. The numbering of the conditions is the decision D28. (45_control.md section 4 (D28, D43)) -/
def Obligations.ConditionalBranch : Prop :=
  (∀ p ∈ ([(.brz24, (fun v => v = 0), fun v => v = 0),
      (.brgz24, (fun v => v ≠ 0), fun v => 0 < v.toInt),
      (.brgez24, (fun _ => True), fun v => v.msb = false),
      (.brev24, (fun v => v.getLsbD 0 = false), fun v => v.getLsbD 0 = false),
      (.brnz24, (fun v => v ≠ 0), fun v => v ≠ 0),
      (.brlez24, (fun v => v = 0), fun v => v.toInt ≤ 0),
      (.brlz24, (fun _ => False), fun v => v.msb = true),
      (.brod24, (fun v => v.getLsbD 0 = true), fun v => v.getLsbD 0 = true)] :
      List (FormB 8 × (Word → Prop) × (Word → Prop))),
    ∀ (d : RegNum) (n : BitVec 8) (s : State),
      let x := s.rd (s.npc 3) d
      s.readable [d] = true → isFloaty x.ty = false → ∃ t, exec (p.1 d n) s = .next t ∧
        ((x.ty = .s ∧ p.2.2 x.val) ∨ (x.ty = .u ∧ p.2.1 x.val) → Jumps s t (s.npc 3 + n.signExtend 32)) ∧
        (¬ ((x.ty = .s ∧ p.2.2 x.val) ∨ (x.ty = .u ∧ p.2.1 x.val)) → Jumps s t (s.npc 3))) ∧
  ∀ p ∈ ([(.brz32, (fun v => v = 0), fun v => v = 0),
      (.brgz32, (fun v => v ≠ 0), fun v => 0 < v.toInt),
      (.brgez32, (fun _ => True), fun v => v.msb = false),
      (.brev32, (fun v => v.getLsbD 0 = false), fun v => v.getLsbD 0 = false),
      (.brnz32, (fun v => v ≠ 0), fun v => v ≠ 0),
      (.brlez32, (fun v => v = 0), fun v => v.toInt ≤ 0),
      (.brlz32, (fun _ => False), fun v => v.msb = true),
      (.brod32, (fun v => v.getLsbD 0 = true), fun v => v.getLsbD 0 = true)] :
      List (FormB 16 × (Word → Prop) × (Word → Prop))),
    ∀ (d : RegNum) (n : BitVec 16) (s : State),
      let x := s.rd (s.npc 4) d
      s.readable [d] = true → isFloaty x.ty = false → ∃ t, exec (p.1 d n) s = .next t ∧
        ((x.ty = .s ∧ p.2.2 x.val) ∨ (x.ty = .u ∧ p.2.1 x.val) → Jumps s t (s.npc 4 + n.signExtend 32)) ∧
        (¬ ((x.ty = .s ∧ p.2.2 x.val) ∨ (x.ty = .u ∧ p.2.1 x.val)) → Jumps s t (s.npc 4))

/-- O47, A condition and its reverse never both branch and never both fall through, in both formats. For each condition and its reverse on the same register and displacement, in the 24-bit and in the 32-bit format, whenever one completes the other completes, and exactly one of them goes to the target and the other to the next instruction. A register of type float or Posit is refused by both, and R28 while it holds no value faults in both. (45_control.md section 4 (D28), 95_test_vectors.md section 13, 10_state.md sections 1 and 3 (D14), 60_exceptions.md section 1 (D31)) -/
def Obligations.BranchComplement : Prop :=
  (∀ p ∈ ([(.brz24, .brnz24), (.brgz24, .brlez24), (.brgez24, .brlz24), (.brev24, .brod24)] : List (FormB 8 × FormB 8)),
    ∀ (d : RegNum) (n : BitVec 8) (s : State),
      (s.readable [d] = false → exec (p.1 d n) s = .fault (.unwrittenRegister 28) ∧
        exec (p.2 d n) s = .fault (.unwrittenRegister 28)) ∧
      (s.readable [d] = true → isFloaty (s.rd (s.npc 3) d).ty = true →
        exec (p.1 d n) s = .refused .floatOrPosit ∧ exec (p.2 d n) s = .refused .floatOrPosit) ∧
      ∀ t, exec (p.1 d n) s = .next t → ∃ v, exec (p.2 d n) s = .next v ∧
        ((t.pc = s.npc 3 + n.signExtend 32 ∧ v.pc = s.npc 3) ∨ (t.pc = s.npc 3 ∧ v.pc = s.npc 3 + n.signExtend 32))) ∧
  ∀ p ∈ ([(.brz32, .brnz32), (.brgz32, .brlez32), (.brgez32, .brlz32), (.brev32, .brod32)] : List (FormB 16 × FormB 16)),
    ∀ (d : RegNum) (n : BitVec 16) (s : State),
      (s.readable [d] = false → exec (p.1 d n) s = .fault (.unwrittenRegister 28) ∧
        exec (p.2 d n) s = .fault (.unwrittenRegister 28)) ∧
      (s.readable [d] = true → isFloaty (s.rd (s.npc 4) d).ty = true →
        exec (p.1 d n) s = .refused .floatOrPosit ∧ exec (p.2 d n) s = .refused .floatOrPosit) ∧
      ∀ t, exec (p.1 d n) s = .next t → ∃ v, exec (p.2 d n) s = .next v ∧
        ((t.pc = s.npc 4 + n.signExtend 32 ∧ v.pc = s.npc 4) ∨ (t.pc = s.npc 4 ∧ v.pc = s.npc 4 + n.signExtend 32))

/-- O48, BBS and BBC for both roles: the bit, the target, the frame, and where they fault. When the register tested can be read, BBS branches when the bit tested is 1 and BBC when it is 0, whatever the type of the register; R28 while it holds no value faults. Which of d and r names the register and which the bit is the open parameter bbs_roles (entry 11): both values are covered. (45_control.md section 4 (D27), 10_state.md sections 1 and 3 (D14)) -/
def Obligations.BitBranch : Prop :=
  ∀ p ∈ ([(.bbs, true), (.bbc, false)] : List (Form3I × Bool)), ∀ (d r : RegNum) (n : Imm5) (s : State),
    let npc := s.npc (3 + n.extLen)
    let reg := match Config.bbsRoles with
      | .regDBitR => d
      | .regRBitD => r
    let bit := match Config.bbsRoles with
      | .regDBitR => r
      | .regRBitD => d
    (s.readable [reg] = true → ∃ t, exec (p.1 d r n) s = .next t ∧
      Jumps s t (if (s.rd npc reg).val.getLsbD bit.val = p.2 then npc + immVal n .disp else npc)) ∧
    (s.readable [reg] = false → exec (p.1 d r n) s = .fault (.unwrittenRegister 28))

/-- O49, NXTH and NXTW: the next aligned address, and where they fault. NXTH goes to the smallest even address above its own and NXTW to the smallest multiple of four, changing nothing else; NXTH at 0xFFFFFFFE or above and NXTW at 0xFFFFFFFC or above are wrap faults (D43). That they act when executed is the decision D26. (45_control.md section 2 (D26), 10_state.md section 2 (D43)) -/
def Obligations.AlignPc : Prop :=
  ∀ s : State,
    (s.pc.toNat < 0xFFFFFFFE → ∃ t, exec .nxth s = .next t ∧ Jumps s t ((s.pc + 2) &&& ~~~1)) ∧
    (0xFFFFFFFE ≤ s.pc.toNat → exec .nxth s = .fault .fetchWrap) ∧
    (s.pc.toNat < 0xFFFFFFFC → ∃ t, exec .nxtw s = .next t ∧ Jumps s t ((s.pc + 4) &&& ~~~3)) ∧
    (0xFFFFFFFC ≤ s.pc.toNat → exec .nxtw s = .fault .fetchWrap)

/-- O50, TRAP: encoding and outcome. TRAP is the byte 0x00 and ends in the trap IllegalInstruction; a fetch from zeroed text traps. (R261) -/
def Obligations.Trap : Prop :=
  encode .trap = [0x00] ∧ (∀ rest, decode (0x00 :: rest) = .ok .trap) ∧
  (∀ s : State, exec .trap s = .fault (.trap .illegalInstruction)) ∧
  ∀ s : State, s.mem.kind s.pc.toNat = some .text → s.mem.byte s.pc.toNat = 0 → step s = .fault (.trap .illegalInstruction)

/-- O51, BRK: encoding and outcome. BRK is the byte 0x01 and ends in the trap Breakpoint, terminal like TRAP; put in the place of the first byte of any instruction in text, it is what runs. (R264) -/
def Obligations.Break : Prop :=
  encode .brk = [0x01] ∧ (∀ rest, decode (0x01 :: rest) = .ok .brk) ∧
  (∀ s : State, exec .brk s = .fault (.trap .breakpoint)) ∧
  ∀ s : State, s.mem.kind s.pc.toNat = some .text → s.mem.byte s.pc.toNat = 1 → step s = .fault (.trap .breakpoint)

/-- O52, MAX, MIN, MAXI, MINI: the operand chosen and the frame. With operands readable and of one type, U or S, the instruction completes and D gets the operand that is not below, respectively not above, the other in the order of that type, with that type; the residue register stays. (46_irregular.md section 1 (D41)) -/
def Obligations.MinMaxTwo : Prop :=
  (∀ p ∈ ([(.max, fun x y => x ≤ y), (.min, fun x y => y ≤ x)] : List (Form3 × (Int → Int → Prop))),
    ∀ (d r rs : RegNum) (s : State) (ty : TyCode),
      let a := (s.rd (s.npc 3) r).val
      let b := (s.rd (s.npc 3) rs).val
      isFloaty ty = false → s.readable [r, rs] = true → (s.rd (s.npc 3) r).ty = ty → (s.rd (s.npc 3) rs).ty = ty →
      ∃ t v, exec (p.1 d r rs) s = .next t ∧ Writes s t (s.npc 3) d v ty .keep ∧ (v = a ∨ v = b) ∧
        p.2 (valOf ty a) (valOf ty v) ∧ p.2 (valOf ty b) (valOf ty v)) ∧
  ∀ p ∈ ([(.maxi, fun x y => x ≤ y), (.mini, fun x y => y ≤ x)] : List (Form3I × (Int → Int → Prop))),
    ∀ (d r : RegNum) (n : Imm5) (s : State) (ty : TyCode),
      let npc := s.npc (3 + n.extLen)
      let a := (s.rd npc r).val
      let b := immVal n (if ty = .s then .signed else .unsigned)
      isFloaty ty = false → s.readable [r] = true → (s.rd npc r).ty = ty →
      ∃ t v, exec (p.1 d r n) s = .next t ∧ Writes s t npc d v ty .keep ∧ (v = a ∨ v = b) ∧
        p.2 (valOf ty a) (valOf ty v) ∧ p.2 (valOf ty b) (valOf ty v)

/-- O53, MAX3, MIN3, MEDIAN3 and their immediate forms: the operand chosen and the frame. With zz = 0 and register operands readable and of one type, U or S, the instruction completes: the three operands can be listed in the order of that type so that D gets the last (MAX3), the first (MIN3) or the middle one (MEDIAN3), with that type; u = 1 leaves R28 without a value (D16). (46_irregular.md section 1 (D16, D41), 95_test_vectors.md section 13) -/
def Obligations.MinMaxThree : Prop :=
  (∀ p ∈ ([(.max3, fun x y v => [x, y, v]), (.min3, fun x y v => [v, x, y]), (.median3, fun x y v => [x, v, y])] :
      List (Form4 × (Word → Word → Word → List Word))),
    ∀ (d r rs rt : RegNum) (u : Bool) (s : State) (ty : TyCode),
      let npc := s.npc 4
      isFloaty ty = false → s.readable [r, rs, rt] = true → (s.rd npc r).ty = ty → (s.rd npc rs).ty = ty → (s.rd npc rt).ty = ty →
      ∃ t v x y, exec (p.1 d r rs rt 0 u) s = .next t ∧
        Writes s t npc d v ty (if u then .unstated else .keep) ∧
        (p.2 x y v).Perm [(s.rd npc r).val, (s.rd npc rs).val, (s.rd npc rt).val] ∧
        (p.2 x y v).Pairwise fun a b => valOf ty a ≤ valOf ty b) ∧
  ∀ p ∈ ([(.max3i, fun x y v => [x, y, v]), (.min3i, fun x y v => [v, x, y]), (.median3I, fun x y v => [x, v, y])] :
      List (Form4I × (Word → Word → Word → List Word))),
    ∀ (d r : RegNum) (n : Imm5) (rt : RegNum) (u : Bool) (s : State) (ty : TyCode),
      let npc := s.npc (4 + n.extLen)
      isFloaty ty = false → s.readable [r, rt] = true → (s.rd npc r).ty = ty → (s.rd npc rt).ty = ty →
      ∃ t v x y, exec (p.1 d r n rt 0 u) s = .next t ∧
        Writes s t npc d v ty (if u then .unstated else .keep) ∧
        (p.2 x y v).Perm [(s.rd npc r).val, immVal n (if ty = .s then .signed else .unsigned), (s.rd npc rt).val] ∧
        (p.2 x y v).Pairwise fun a b => valOf ty a ≤ valOf ty b

/-- O54, NEG, INC, DEC, ABS, NABS: result, sign change and frame. With a readable operand of type U or S the instruction completes: D gets the result on the integer the operand stands for, modulo 2^32, negated when z = 1 (D16), with the type of the operand (D40); NABS is minus the absolute value (D41); the residue register and everything else stay. (47_single_operand.md sections 1 and 3 (D16, D40, D41)) -/
def Obligations.SingleArith : Prop :=
  ∀ p ∈ ([(.neg, fun x => -x), (.inc, fun x => x + 1), (.dec, fun x => x - 1), (.abs, fun x => |x|), (.nabs, fun x => -|x|)] :
      List (Form1 × (Int → Int))),
    ∀ (d rs : RegNum) (z : Bool) (s : State),
      let x := s.rd (s.npc 3) rs
      s.readable [rs] = true → isFloaty x.ty = false →
      ∃ t, exec (p.1 d rs z) s = .next t ∧
        Writes s t (s.npc 3) d (BitVec.ofInt 32 ((if z then -1 else 1) * p.2 (valOf x.ty x.val))) x.ty .keep

/-- O55, LDZCNT, LD1CNT, TRZCNT, TR1CNT, POPCNT: the count and the frame. With a readable operand of type U or S the instruction completes with the number of leading zeros or ones, of trailing zeros or ones, or of ones, negated when z = 1, with the type of the operand. The counts are 32 for a word of zeros (ones). (47_single_operand.md sections 1 and 3 (D16, D40)) -/
def Obligations.SingleCount : Prop :=
  (∀ p ∈ ([(.ldzcnt, false), (.ld1cnt, true)] : List (Form1 × Bool)), ∀ (d rs : RegNum) (z : Bool) (s : State),
      let x := s.rd (s.npc 3) rs
      s.readable [rs] = true → isFloaty x.ty = false →
      ∃ t c, exec (p.1 d rs z) s = .next t ∧
        Writes s t (s.npc 3) d (if z then -(BitVec.ofNat 32 c) else BitVec.ofNat 32 c) x.ty .keep ∧ c ≤ 32 ∧
        (∀ k < c, x.val.getLsbD (31 - k) = p.2) ∧ (c < 32 → x.val.getLsbD (31 - c) = !p.2)) ∧
  (∀ p ∈ ([(.trzcnt, false), (.tr1cnt, true)] : List (Form1 × Bool)), ∀ (d rs : RegNum) (z : Bool) (s : State),
      let x := s.rd (s.npc 3) rs
      s.readable [rs] = true → isFloaty x.ty = false →
      ∃ t c, exec (p.1 d rs z) s = .next t ∧
        Writes s t (s.npc 3) d (if z then -(BitVec.ofNat 32 c) else BitVec.ofNat 32 c) x.ty .keep ∧ c ≤ 32 ∧
        (∀ k < c, x.val.getLsbD k = p.2) ∧ (c < 32 → x.val.getLsbD c = !p.2)) ∧
  ∀ (d rs : RegNum) (z : Bool) (s : State),
      let x := s.rd (s.npc 3) rs
      s.readable [rs] = true → isFloaty x.ty = false →
      ∃ t, exec (.popcnt d rs z) s = .next t ∧
        let c := (List.range 32).countP fun k => x.val.getLsbD k
        Writes s t (s.npc 3) d (if z then -(BitVec.ofNat 32 c) else BitVec.ofNat 32 c) x.ty .keep

/-- O56, MOV, NOT and SQRT: result and frame. With a readable operand: MOV copies value and type, of any type when z = 0 and negated for types U and S when z = 1; NOT writes the complement with type U whatever the operand's type, negated when z = 1 (entry 14); SQRT of an operand of type U, or of type S and not negative, writes the greatest q with q * q not above it. (47_single_operand.md sections 1 to 3 (D16, D40)) -/
def Obligations.SingleMove : Prop :=
  (∀ (d rs : RegNum) (z : Bool) (s : State),
    let x := s.rd (s.npc 3) rs
    s.readable [rs] = true → (z = true → isFloaty x.ty = false) →
    ∃ t, exec (.mov d rs z) s = .next t ∧ Writes s t (s.npc 3) d (if z then -x.val else x.val) x.ty .keep) ∧
  (∀ (d rs : RegNum) (z : Bool) (s : State),
    let x := s.rd (s.npc 3) rs
    s.readable [rs] = true → ∃ t, exec (.not d rs z) s = .next t ∧ Writes s t (s.npc 3) d (if z then -(~~~x.val) else ~~~x.val) .u .keep) ∧
  ∀ (d rs : RegNum) (z : Bool) (s : State),
    let x := s.rd (s.npc 3) rs
    s.readable [rs] = true → isFloaty x.ty = false → 0 ≤ valOf x.ty x.val →
    ∃ t q, exec (.sqrt d rs z) s = .next t ∧ (q * q : Nat) ≤ x.val.toNat ∧ x.val.toNat < (q + 1) * (q + 1) ∧
      Writes s t (s.npc 3) d (if z then -(BitVec.ofNat 32 q) else BitVec.ofNat 32 q) x.ty .keep

/-- O57, IN and OUT: the event and the frame. With z = 0 and readable operands IN completes: some value x is drawn, the read of x from the port S names is recorded, D gets x with type U; OUT completes: the write of the content of D to the port S names is recorded and no architectural state but the pc changes. Nothing is said of x, and the list of events and the count of draws are the model's own fields (entry 12). (47_single_operand.md section 2, 20_memory.md section 3 (D37)) -/
def Obligations.Ports : Prop :=
  (∀ (d rs : RegNum) (s : State), s.readable [rs] = true → ∃ t x, exec (.inp d rs false) s = .next t ∧
    Writes { s with events := s.events ++ [.read (s.rd (s.npc 3) rs).val x], draws := s.draws + 1 } t (s.npc 3) d x .u .keep) ∧
  ∀ (d rs : RegNum) (s : State), s.readable [rs, d] = true → ∃ t, exec (.out d rs false) s = .next t ∧
    Jumps { s with events := s.events ++ [.write (s.rd (s.npc 3) rs).val (s.rd (s.npc 3) d).val] } t (s.npc 3)

/-- O58, Where the integer single operand instructions stop. z = 1 in IN and OUT is OperandModifier. A read of R28 while it holds no value faults, in OUT also as the register written out. A readable operand of type float or Posit is refused as FloatOrPosit (MOV only with z = 1, NOT never); a negative operand of type S in SQRT is SqrtNegative. (47_single_operand.md sections 1 to 3 (D7, D16), 60_exceptions.md section 1 (D31), 10_state.md sections 1 and 3 (D14)) -/
def Obligations.SingleStops : Prop :=
  (∀ c ∈ ([.neg, .inc, .dec, .abs, .nabs, .ldzcnt, .ld1cnt, .trzcnt, .tr1cnt, .popcnt, .sqrt] : List Form1),
    ∀ (d rs : RegNum) (z : Bool) (s : State), s.readable [rs] = true → isFloaty (s.rd (s.npc 3) rs).ty = true →
    exec (c d rs z) s = .refused .floatOrPosit) ∧
  (∀ (d rs : RegNum) (s : State), s.readable [rs] = true → isFloaty (s.rd (s.npc 3) rs).ty = true →
    exec (.mov d rs true) s = .refused .floatOrPosit) ∧
  (∀ c ∈ ([.neg, .inc, .dec, .abs, .nabs, .ldzcnt, .ld1cnt, .trzcnt, .tr1cnt, .popcnt, .sqrt, .mov, .not] : List Form1),
    ∀ (d rs : RegNum) (z : Bool) (s : State), s.readable [rs] = false →
    exec (c d rs z) s = .fault (.unwrittenRegister 28)) ∧
  (∀ (d rs : RegNum) (s : State),
    (s.readable [rs] = false → exec (.inp d rs false) s = .fault (.unwrittenRegister 28)) ∧
    (s.readable [rs, d] = false → exec (.out d rs false) s = .fault (.unwrittenRegister 28))) ∧
  (∀ c ∈ ([.inp, .out] : List Form1), ∀ (d rs : RegNum) (s : State), exec (c d rs true) s = .refused .operandModifier) ∧
  ∀ (d rs : RegNum) (z : Bool) (s : State), s.readable [rs] = true → (s.rd (s.npc 3) rs).ty = .s →
    (s.rd (s.npc 3) rs).val.msb = true → exec (.sqrt d rs z) s = .refused .sqrtNegative

/-- O59, The instructions of another architecture are refused by name. LOOP, LOOPI, EXIT, PCB1, VECT, PCND, MMOV, LDM, STM and TT end in the refusal that names them, whatever their fields; their opcodes are those the rules print. (R276, R278, R279, R280, R281, R302, R303, R304, R305) -/
def Obligations.ForeignRefused : Prop :=
  (∀ (d r rs : RegNum) (f : BitVec 5) (s : State),
    exec (.loop d r rs) s = .refused .loop ∧ (encode (.loop d r rs)).head? = some 0x33 ∧
    exec (.loopi d r f) s = .refused .loop ∧ (encode (.loopi d r f)).head? = some 0x33) ∧
  (∀ (f : BitVec 16) (s : State), exec (.exit f) s = .refused .exit ∧ (encode (.exit f)).head? = some 0x0B) ∧
  (∀ (d : RegNum) (n : BitVec 11) (s : State), exec (.vect d n) s = .refused .vect ∧ (encode (.vect d n)).head? = some 0x32) ∧
  ∀ p ∈ ([(.pcb1, .pcb1, 0x7C), (.pcnd, .pcnd, 0x7B), (.mmov, .mmov, 0x7A), (.ldm, .ldm, 0x7E), (.stm, .stm, 0x7D),
      (.tt, .tt, 0x7F)] : List ((BitVec 24 → Instr) × Refusal × Byte)),
    ∀ (f : BitVec 24) (s : State), exec (p.1 f) s = .refused p.2.1 ∧ (encode (p.1 f)).head? = some p.2.2

/-- O60, The float instructions, those whose operands the source does not give, and the rows without an opcode, are refused by name. Every fmt24ds mnemonic of the float section is refused under its own name. ENTER, INTP, LUT, CMOV, MERG, the 32-bit single operand container with the mnemonics only it could hold, MOVI, EADD, MV2 and SHL end in the refusal that names the reason; those without an encoding are not well-formed. That such rows are constructors at all, that they are not well-formed and end in a refusal if ever executed, is the model's DESIGN CHOICE (entry 16): the spec says only that they are not instructions of the machine. (45_control.md section 5 (D42), 46_irregular.md sections 2 and 4, 43_shift_bitfield.md section 5 (D42), 47_single_operand.md sections 1 to 4 (D7, D35), 60_exceptions.md section 1) -/
def Obligations.RolesRefused : Prop :=
  (∀ p ∈ ([(.sinpi, .sinpi), (.cospi, .cospi), (.tanpi, .tanpi), (.asinpi, .asinpi), (.acospi, .acospi), (.atanpi, .atanpi),
      (.int, .int), (.flt, .flt), (.expon, .expon), (.fract, .fract), (.fsqrt, .fsqrt), (.frsqrt, .frsqrt),
      (.frcp, .frcp), (.ln2p1, .ln2p1), (.ln2, .ln2), (.exp2m1, .exp2m1), (.exp2, .exp2), (.rnd, .rnd),
      (.rndtev, .rndtev), (.rndtod, .rndtod), (.rndtz, .rndtz), (.rndfz, .rndfz), (.ceil, .ceil), (.floor, .floor)] : List (Form1 × SingleOp)),
    ∀ (d rs : RegNum) (z : Bool) (s : State), exec (p.1 d rs z) s = .refused (.floatOp p.2)) ∧
  (∀ (f : BitVec 16) (s : State), exec (.enter f) s = .refused .enter) ∧
  (∀ p ∈ ([(.intp, .intp), (.lut, .lut), (.cmov, .cmov), (.container32, .fmt32ds)] : List ((BitVec 24 → Instr) × Refusal)),
    ∀ (f : BitVec 24) (s : State), exec (p.1 f) s = .refused p.2) ∧
  (∀ i ∈ [Instr.cvt, .lnp1, .ln, .logp1, .log, .expm1, .exp, .exp10m1, .exp10, .sin, .cos, .tan, .asin, .acos, .atan, .movi],
    WellFormed i = false ∧ ∀ s : State, exec i s = .refused .fmt32ds) ∧
  (WellFormed .merg = false ∧ ∀ s : State, exec .merg s = .refused .merg) ∧
  ∀ i ∈ [Instr.eadd, .mv2, .shl], WellFormed i = false ∧ ∀ s : State, exec i s = .refused .noOpcode
end

