-- ==== Sys2Proof/Laws/State.lean ====
section
/-! SUPPORT. The small lemmas of `State`: what each update leaves in each field and in each register. -/

namespace Sys2Proof.Machine

/-! ## Replacing one field of the state -/

/-- A register depends on no field but `regs`. -/
@[simp] theorem State.reg_mk (s : State) (p : Word) (l : Bool) (m : Memory) (e : List PortEvent) (n : Nat) (i : RegNum)
    (h : i ≠ 31) : (State.mk s.regs p l m e n).reg i = s.reg i := by
  have h : i.val < 31 := by have := i.isLt; have : i.val ≠ 31 := fun e => h (Fin.ext e); omega
  simp [State.reg, h]

/-! ## `State.setReg` -/

theorem lt31_of_ne {i : RegNum} (h : i ≠ 31) : i.val < 31 := by
  have := i.isLt; have : i.val ≠ 31 := fun e => h (Fin.ext e); omega

@[simp] theorem State.setReg_mem (s : State) (i : RegNum) (r : Reg) : (s.setReg i r).mem = s.mem := by
  unfold State.setReg; split <;> rfl
@[simp] theorem State.setReg_events (s : State) (i : RegNum) (r : Reg) : (s.setReg i r).events = s.events := by
  unfold State.setReg; split <;> rfl
@[simp] theorem State.setReg_draws (s : State) (i : RegNum) (r : Reg) : (s.setReg i r).draws = s.draws := by
  unfold State.setReg; split <;> rfl
@[simp] theorem State.setReg_residueLost (s : State) (i : RegNum) (r : Reg) :
    (s.setReg i r).residueLost = (s.residueLost && i != 28) := by
  unfold State.setReg; split
  · simp [bne, decide_not]; rfl
  · rename_i h
    have : i ≠ 28 := fun e => by subst e; exact h (by decide)
    simp [this]
@[simp] theorem State.setReg_pc (s : State) (i : RegNum) (r : Reg) (h : i ≠ 31) : (s.setReg i r).pc = s.pc := by
  simp [State.setReg, lt31_of_ne h]
@[simp] theorem State.reg_setReg_same (s : State) (i : RegNum) (r : Reg) (h : i ≠ 31) : (s.setReg i r).reg i = r := by
  simp [State.setReg, State.reg, lt31_of_ne h]
@[simp] theorem State.reg_setReg_ne (s : State) (i j : RegNum) (r : Reg) (hj : j ≠ 31) (h : j ≠ i) :
    (s.setReg i r).reg j = s.reg j := by
  have hv : i.val ≠ j.val := fun e => h (Fin.ext e.symm)
  unfold State.setReg
  split <;> simp [State.reg, lt31_of_ne hj, hv]

/-! ## `State.rd`, `State.rdBase`, `State.rdIndex` -/

@[simp] theorem State.rd_pc (s : State) (npc : Word) : s.rd npc 31 = { val := npc, ty := .u } := rfl
theorem State.rd_of_ne (s : State) (npc : Word) (i : RegNum) (h : i ≠ 31) : s.rd npc i = s.reg i := by simp [State.rd, h]
@[simp] theorem State.rdBase_residue (s : State) (npc : Word) : s.rdBase npc 28 = 0 := rfl
@[simp] theorem State.rdIndex_zero (s : State) (npc : Word) : s.rdIndex npc 0 = 0 := rfl
theorem State.rdBase_of_ne (s : State) (npc : Word) (i : RegNum) (h : i ≠ 28) : s.rdBase npc i = (s.rd npc i).val := by
  simp [State.rdBase, h]
theorem State.rdIndex_of_ne (s : State) (npc : Word) (i : RegNum) (h : i ≠ 0) : s.rdIndex npc i = (s.rd npc i).val := by
  simp [State.rdIndex, h]

/-! ## `State.readable` -/

/-- Where R28 holds a value every register does. -/
@[simp] theorem State.readable_of_found (s : State) (l : List RegNum) (h : s.residueLost = false) : s.readable l = true := by
  simp [State.readable, h]
/-- Every register but R28 holds a value. -/
@[simp] theorem State.readable_of_not_mem (s : State) (l : List RegNum) (h : 28 ∉ l) : s.readable l = true := by
  simp [State.readable, h]

/-! ## `State.wr` -/

@[simp] theorem State.wr_mem (s : State) (npc : Word) (d : RegNum) (v : Word) (t : TyCode) : (s.wr npc d v t).mem = s.mem := by
  unfold State.wr; split <;> simp
@[simp] theorem State.wr_events (s : State) (npc : Word) (d : RegNum) (v : Word) (t : TyCode) :
    (s.wr npc d v t).events = s.events := by unfold State.wr; split <;> simp
@[simp] theorem State.wr_draws (s : State) (npc : Word) (d : RegNum) (v : Word) (t : TyCode) :
    (s.wr npc d v t).draws = s.draws := by unfold State.wr; split <;> simp
@[simp] theorem State.wr_residueLost (s : State) (npc : Word) (d : RegNum) (v : Word) (t : TyCode) :
    (s.wr npc d v t).residueLost = (s.residueLost && d != 28) := by
  unfold State.wr; split
  · rename_i h; subst h; simp
  · simp
@[simp] theorem State.wr_pc (s : State) (npc : Word) (d : RegNum) (v : Word) (t : TyCode) :
    (s.wr npc d v t).pc = if d = 31 then v else npc := by unfold State.wr; split <;> simp
@[simp] theorem State.reg_wr_same (s : State) (npc : Word) (d : RegNum) (v : Word) (t : TyCode) (h : d ≠ 31) :
    (s.wr npc d v t).reg d = { val := v, ty := t } := by simp [State.wr, h]
@[simp] theorem State.reg_wr_ne (s : State) (npc : Word) (d i : RegNum) (v : Word) (t : TyCode) (hi : i ≠ 31) (h : i ≠ d) :
    (s.wr npc d v t).reg i = s.reg i := by unfold State.wr; split <;> simp [hi, h]

/-! ## `State.poisonResidue` -/

@[simp] theorem State.poisonResidue_mem (s : State) : s.poisonResidue.mem = s.mem := rfl
@[simp] theorem State.poisonResidue_events (s : State) : s.poisonResidue.events = s.events := rfl
@[simp] theorem State.poisonResidue_draws (s : State) : s.poisonResidue.draws = s.draws := rfl
@[simp] theorem State.poisonResidue_pc (s : State) : s.poisonResidue.pc = s.pc := rfl
@[simp] theorem State.poisonResidue_residueLost (s : State) : s.poisonResidue.residueLost = true := rfl
@[simp] theorem State.reg_poisonResidue (s : State) (i : RegNum) : s.poisonResidue.reg i = s.reg i := rfl

/-! ## `State.writeBack` -/

@[simp] theorem State.writeBack_mem (s : State) (npc : Word) (d : RegNum) (v : Word) (t : TyCode) (res : ResidueEffect) :
    (s.writeBack npc d v t res).mem = s.mem := by
  unfold State.writeBack; split <;> try split
  all_goals simp
@[simp] theorem State.writeBack_events (s : State) (npc : Word) (d : RegNum) (v : Word) (t : TyCode) (res : ResidueEffect) :
    (s.writeBack npc d v t res).events = s.events := by
  unfold State.writeBack; split <;> try split
  all_goals simp
@[simp] theorem State.writeBack_pc (s : State) (npc : Word) (d : RegNum) (v : Word) (t : TyCode) (res : ResidueEffect) :
    (s.writeBack npc d v t res).pc = if d = 31 then v else npc := by
  cases res with
  | put w => simp only [State.writeBack]; split <;> simp
  | _ => simp [State.writeBack]

@[simp] theorem State.writeBack_draws (s : State) (npc : Word) (d : RegNum) (v : Word) (t : TyCode) (res : ResidueEffect) :
    (s.writeBack npc d v t res).draws = s.draws := by
  unfold State.writeBack; split <;> try split
  all_goals simp
@[simp] theorem State.writeBack_residueLost (s : State) (npc : Word) (d : RegNum) (v : Word) (t : TyCode) (res : ResidueEffect) :
    (s.writeBack npc d v t res).residueLost = residueAfter d s.residueLost res := by
  cases res with
  | put w => unfold State.writeBack; simp only [residueAfter]; split <;> simp_all
  | _ => simp [State.writeBack, residueAfter]

/-- Everything `writeBack` does, in the terms of the claims. -/
theorem State.writeBack_writes (s : State) (npc : Word) (d : RegNum) (v : Word) (t : TyCode) (res : ResidueEffect) :
    Writes s (s.writeBack npc d v t res) npc d v t res where
  pc := by simp
  lost := by simp
  dest h1 h2 := by
    cases res with
    | put w =>
      have hd : d ≠ 28 := fun e => by simpa using h2 e
      simp [State.writeBack, hd, h1]
    | _ => simp [State.writeBack, h1]
  residue w h1 h2 := by subst h1; simp [State.writeBack, h2]
  regs i h1 h2 := by
    simp only [not_or, not_and, not_not] at h2
    cases res with
    | keep => simp [State.writeBack, h1, h2.1]
    | put w =>
      have hi : i ≠ 28 := fun e => by simpa using h2.2 e
      unfold State.writeBack; simp only; split <;> simp [h1, h2.1, hi]
    | unstated =>
      have hi : i ≠ 28 := fun e => by simpa using h2.2 e
      simp [State.writeBack, h1, h2.1]
  memory := ⟨fun a => by simp, fun a => by simp⟩
  events := by simp
  draws := by simp

/-! ## The ports -/

@[simp] theorem State.portRead_mem (s : State) (p : Word) : (s.portRead p).mem = s.mem := rfl
@[simp] theorem State.portRead_residueLost (s : State) (p : Word) : (s.portRead p).residueLost = s.residueLost := rfl
@[simp] theorem State.portRead_pc (s : State) (p : Word) : (s.portRead p).pc = s.pc := rfl
@[simp] theorem State.reg_portRead (s : State) (p : Word) (i : RegNum) : (s.portRead p).reg i = s.reg i := rfl
@[simp] theorem State.portWrite_mem (s : State) (p v : Word) : (s.portWrite p v).mem = s.mem := rfl
@[simp] theorem State.portWrite_residueLost (s : State) (p v : Word) : (s.portWrite p v).residueLost = s.residueLost := rfl
@[simp] theorem State.portWrite_pc (s : State) (p v : Word) : (s.portWrite p v).pc = s.pc := rfl
@[simp] theorem State.portWrite_draws (s : State) (p v : Word) : (s.portWrite p v).draws = s.draws := rfl
@[simp] theorem State.reg_portWrite (s : State) (p v : Word) (i : RegNum) : (s.portWrite p v).reg i = s.reg i := rfl

end Sys2Proof.Machine
end

