-- ==== Sys2Proof/Laws/Memory.lean ====
section
/-! SUPPORT. Memory: reading after writing, what a write leaves alone, the canonical form kept by every operation, and what
the checked accesses answer. -/

namespace Sys2Proof.Machine

/-! ## One byte -/

theorem cellsRead_of_lt {lo a : Nat} {cs : List Host.Cell} (h : cellsWf lo cs = true) (ha : a < lo) : cellsRead cs a = 0 := by
  induction cs generalizing lo with
  | nil => rfl
  | cons c rest ih =>
    obtain ⟨x, v⟩ := c
    simp only [cellsWf, Bool.and_eq_true, decide_eq_true_eq] at h
    have hx : x ≠ a := by omega
    simp only [cellsRead, hx, if_false]
    exact ih h.2 (by omega)

theorem cellsRead_write_same {lo : Nat} {cs : List Host.Cell} (h : cellsWf lo cs = true) (a : Nat) (b : Byte) :
    cellsRead (cellsWrite cs a b) a = b := by
  induction cs generalizing lo with
  | nil => simp only [cellsWrite]; split <;> simp_all [cellsRead]
  | cons c rest ih =>
    obtain ⟨x, v⟩ := c
    simp only [cellsWf, Bool.and_eq_true, decide_eq_true_eq] at h
    simp only [cellsWrite]
    split
    · split
      · rename_i h1 h2
        have hx : x ≠ a := by omega
        simp only [cellsRead, hx, if_false, h2]
        exact cellsRead_of_lt h.2 (by omega)
      · simp [cellsRead]
    · split
      · split
        · rename_i h1 h2 h3
          rw [h3]; exact cellsRead_of_lt h.2 (by omega)
        · simp [cellsRead]
      · rename_i h1 h2
        have hx : x ≠ a := fun e => h2 e.symm
        simp only [cellsRead, hx, if_false]
        exact ih h.2

theorem cellsRead_write_ne (cs : List Host.Cell) (a c : Nat) (b : Byte) (hc : c ≠ a) :
    cellsRead (cellsWrite cs a b) c = cellsRead cs c := by
  induction cs with
  | nil => simp only [cellsWrite]; split <;> simp_all [cellsRead, Ne.symm hc]
  | cons p rest ih =>
    obtain ⟨x, v⟩ := p
    simp only [cellsWrite]
    split
    · split
      · rfl
      · simp [cellsRead, hc.symm]
    · split
      · rename_i h1 h2
        have hx : x ≠ c := by omega
        split <;> simp [cellsRead, hx, hc.symm]
      · simp only [cellsRead]; split
        · rfl
        · exact ih

theorem cellsWf_write {lo a : Nat} {cs : List Host.Cell} (h : cellsWf lo cs = true) (b : Byte) (hl : lo ≤ a) (ha : a < 2 ^ 32) :
    cellsWf lo (cellsWrite cs a b) = true := by
  induction cs generalizing lo with
  | nil => simp only [cellsWrite]; split <;> simp_all [cellsWf]
  | cons p rest ih =>
    obtain ⟨x, v⟩ := p
    have h' := h
    simp only [cellsWf, Bool.and_eq_true, decide_eq_true_eq] at h
    obtain ⟨⟨⟨h1, h2⟩, h3⟩, h4⟩ := h
    simp only [cellsWrite]
    split
    · split
      · exact h'
      · rename_i hlt hb
        simp only [cellsWf, Bool.and_eq_true, decide_eq_true_eq]
        exact ⟨⟨⟨hl, ha⟩, hb⟩, ⟨⟨by omega, h2⟩, h3⟩, h4⟩
    · split
      · split
        · cases rest with
          | nil => rfl
          | cons q rest' =>
            simp only [cellsWf, Bool.and_eq_true, decide_eq_true_eq] at h4 ⊢
            exact ⟨⟨⟨by omega, h4.1.1.2⟩, h4.1.2⟩, h4.2⟩
        · rename_i hlt he hb
          subst he
          simp only [cellsWf, Bool.and_eq_true, decide_eq_true_eq]
          exact ⟨⟨⟨h1, h2⟩, hb⟩, h4⟩
      · simp only [cellsWf, Bool.and_eq_true, decide_eq_true_eq]
        exact ⟨⟨⟨h1, h2⟩, h3⟩, ih h4 (by omega)⟩

theorem cellsWrite_all {cs : List Host.Cell} {p : Nat → Bool} (h : cs.all (fun c => p c.1) = true) (a : Nat) (b : Byte)
    (ha : p a = true) : (cellsWrite cs a b).all (fun c => p c.1) = true := by
  induction cs with
  | nil => simp only [cellsWrite]; split <;> simp_all
  | cons q rest ih =>
    obtain ⟨x, v⟩ := q
    simp only [List.all_cons, Bool.and_eq_true] at h
    simp only [cellsWrite]
    split
    · split <;> simp only [List.all_cons, Bool.and_eq_true] <;> simp [h.1, h.2, ha]
    · split
      · split
        · exact h.2
        · simp only [List.all_cons, Bool.and_eq_true]; exact ⟨ha, h.2⟩
      · simp only [List.all_cons, Bool.and_eq_true]; exact ⟨h.1, ih h.2⟩

/-! ## `Memory.setByte` -/

@[simp] theorem Memory.setByte_map (m : Memory) (a : Nat) (b : Byte) : (m.setByte a b).map = m.map := rfl
@[simp] theorem Memory.setByte_kind (m : Memory) (a c : Nat) (b : Byte) : (m.setByte a b).kind c = m.kind c := rfl

theorem Memory.byte_setByte_ne (m : Memory) (a c : Nat) (b : Byte) (h : c ≠ a) : (m.setByte a b).byte c = m.byte c :=
  cellsRead_write_ne m.cells a c b h

theorem Memory.byte_setByte_same (m : Memory) (a : Nat) (b : Byte) (h : m.wf = true) : (m.setByte a b).byte a = b := by
  simp only [Memory.wf, Bool.and_eq_true] at h
  exact cellsRead_write_same h.1 a b

theorem Memory.wf_setByte (m : Memory) (a : Nat) (b : Byte) (h : m.wf = true) (ha : a < 2 ^ 32)
    (hk : (m.kind a).isSome = true) : (m.setByte a b).wf = true := by
  simp only [Memory.wf, Bool.and_eq_true] at h ⊢
  exact ⟨cellsWf_write h.1 b (Nat.zero_le a) ha, cellsWrite_all (p := fun x => (regionAt m.map x).isSome) h.2 a b hk⟩

/-! ## `Memory.setBytes` -/

@[simp] theorem Memory.setBytes_map (m : Memory) (a : Word) (bs : List Byte) : (m.setBytes a bs).map = m.map := by
  induction bs generalizing m a with
  | nil => rfl
  | cons b bs ih => simp [Memory.setBytes, ih]

@[simp] theorem Memory.setBytes_kind (m : Memory) (a : Word) (bs : List Byte) (c : Nat) :
    (m.setBytes a bs).kind c = m.kind c := by simp [Memory.kind]

theorem addr_succ (a : Word) (k : Nat) : a + 1 + BitVec.ofNat 32 k = a + BitVec.ofNat 32 (k + 1) := by
  have : BitVec.ofNat 32 (k + 1) = BitVec.ofNat 32 k + 1 := by
    apply BitVec.eq_of_toNat_eq; simp
  rw [this]; ac_rfl

/-- A byte outside the written ones is as before. -/
theorem Memory.byte_setBytes_out (m : Memory) (a : Word) (bs : List Byte) (c : Nat)
    (h : ∀ k < bs.length, c ≠ (a + BitVec.ofNat 32 k).toNat) : (m.setBytes a bs).byte c = m.byte c := by
  induction bs generalizing m a with
  | nil => rfl
  | cons b bs ih =>
    rw [Memory.setBytes, ih, Memory.byte_setByte_ne]
    · simpa using h 0 (by simp)
    · intro k hk; rw [addr_succ]; exact h (k + 1) (by simpa using hk)

/-- Writing bytes the map holds keeps the canonical form. -/
theorem Memory.wf_setBytes (m : Memory) (a : Word) (bs : List Byte) (h : m.wf = true)
    (hk : ∀ k < bs.length, (m.kind (a + BitVec.ofNat 32 k).toNat).isSome = true) : (m.setBytes a bs).wf = true := by
  induction bs generalizing m a with
  | nil => exact h
  | cons b bs ih =>
    rw [Memory.setBytes]
    apply ih
    · exact Memory.wf_setByte m _ b h a.isLt (by simpa using hk 0 (by simp))
    · intro k hlt; rw [addr_succ]; exact hk (k + 1) (by simpa using hlt)

/-- Every byte written reads back, when no more than 2^32 are written. -/
theorem Memory.byte_setBytes_in (m : Memory) (a : Word) (bs : List Byte) (k : Nat) (h : m.wf = true)
    (hl : bs.length ≤ 2 ^ 32) (hh : ∀ k < bs.length, (m.kind (a + BitVec.ofNat 32 k).toNat).isSome = true)
    (hk : k < bs.length) : (m.setBytes a bs).byte (a + BitVec.ofNat 32 k).toNat = bs[k] := by
  induction bs generalizing m a k with
  | nil => simp at hk
  | cons b bs ih =>
    simp only [List.length_cons] at hl hk
    rw [Memory.setBytes]
    cases k with
    | zero =>
      rw [Memory.byte_setBytes_out]
      · simpa using Memory.byte_setByte_same m a.toNat b h
      · intro k hk he
        rw [addr_succ] at he
        have := congrArg (BitVec.ofNat 32) he
        simp only [BitVec.ofNat_toNat, BitVec.setWidth_eq] at this
        have h3 := congrArg BitVec.toNat this
        simp only [BitVec.toNat_add, BitVec.toNat_ofNat] at h3
        omega
    | succ k =>
      have hw : (m.setByte a.toNat b).wf = true := Memory.wf_setByte m _ b h a.isLt (by simpa using hh 0 (by simp))
      have := ih (m.setByte a.toNat b) (a + 1) k hw (by omega)
        (fun j hj => by rw [addr_succ]; exact hh (j + 1) (by simpa using hj)) (by omega)
      rw [addr_succ] at this
      simpa using this

/-! ## The checked accesses -/

theorem checkHeld_ok (m : Memory) (a : Word) (n : Nat) :
    checkHeld m a n = .ok () ↔ ∀ k < n, (m.kind (a + BitVec.ofNat 32 k).toNat).isSome = true := by
  induction n generalizing a with
  | zero => simp [checkHeld]
  | succ n ih =>
    rw [Nat.forall_lt_succ_left]
    simp only [checkHeld, faultIf]
    split
    · rename_i h
      simp [h, bind, Except.bind]
    · rename_i h
      simp only [bind, Except.bind, ih, addr_succ]
      simp [Option.isSome_iff_ne_none, h]

theorem checkNotText_ok (m : Memory) (a : Word) (n : Nat) :
    checkNotText m a n = .ok () ↔ ∀ k < n, m.kind (a + BitVec.ofNat 32 k).toNat ≠ some .text := by
  induction n generalizing a with
  | zero => simp [checkNotText]
  | succ n ih =>
    rw [Nat.forall_lt_succ_left]
    simp only [checkNotText, faultIf]
    split
    · rename_i h
      simp [h, bind, Except.bind]
    · rename_i h
      simp only [bind, Except.bind, ih, addr_succ]
      simp [h]

/-- When `memRead` answers, the bytes are held and the answer is their little-endian number. -/
theorem memRead_ok {m : Memory} {a : Word} {n v : Nat} (h : memRead m a n = .ok v) :
    (∀ k < n, (m.kind (a + BitVec.ofNat 32 k).toNat).isSome = true) ∧ v = bytesToNat (m.bytes a n) := by
  simp only [memRead, bind, Except.bind] at h
  split at h
  · cases h
  · rename_i u hc
    exact ⟨(checkHeld_ok m a n).mp hc, by simpa [pure, Except.pure] using h.symm⟩

/-- `memRead` answers for bytes the map holds. -/
theorem memRead_of_held (m : Memory) (a : Word) (n : Nat)
    (h : ∀ k < n, (m.kind (a + BitVec.ofNat 32 k).toNat).isSome = true) : memRead m a n = .ok (bytesToNat (m.bytes a n)) := by
  simp [memRead, (checkHeld_ok m a n).mpr h, bind, Except.bind, pure, Except.pure]

/-- When `memWrite` answers, the bytes are held, none is text, and the answer is the memory with them written. -/
theorem memWrite_ok {m m' : Memory} {a : Word} {n : Nat} {v : Word} (h : memWrite m a n v = .ok m') :
    (∀ k < n, (m.kind (a + BitVec.ofNat 32 k).toNat).isSome = true) ∧
      (∀ k < n, m.kind (a + BitVec.ofNat 32 k).toNat ≠ some .text) ∧ m' = m.setBytes a (natToBytes n v.toNat) := by
  simp only [memWrite, bind, Except.bind] at h
  split at h
  · cases h
  · rename_i u hc
    split at h
    · cases h
    · rename_i u' hc'
      exact ⟨(checkHeld_ok m a n).mp hc, (checkNotText_ok m a n).mp hc', by simpa [pure, Except.pure] using h.symm⟩

/-- `memWrite` answers for bytes the map holds and does not mark text. -/
theorem memWrite_of_ram (m : Memory) (a : Word) (n : Nat) (v : Word)
    (h : ∀ k < n, m.kind (a + BitVec.ofNat 32 k).toNat = some .ram) :
    memWrite m a n v = .ok (m.setBytes a (natToBytes n v.toNat)) := by
  have h1 := (checkHeld_ok m a n).mpr fun k hk => by rw [h k hk]; rfl
  have h2 := (checkNotText_ok m a n).mpr fun k hk => by rw [h k hk]; decide
  simp [memWrite, h1, h2, bind, Except.bind, pure, Except.pure]

@[simp] theorem natToBytes_length (n v : Nat) : (natToBytes n v).length = n := by
  induction n generalizing v with
  | zero => rfl
  | succ n ih => simp [natToBytes, ih]

/-- `memWrite` keeps the canonical form. -/
theorem memWrite_wf {m m' : Memory} {a : Word} {n : Nat} {v : Word} (hw : m.wf = true) (h : memWrite m a n v = .ok m') :
    m'.wf = true := by
  obtain ⟨h1, _, h3⟩ := memWrite_ok h
  subst h3
  exact Memory.wf_setBytes m a _ hw (by simpa using h1)

theorem reset_mem_wf : State.reset.mem.wf = true := rfl

end Sys2Proof.Machine
end

