-- ==== Sys2Proof/Laws/Ops.lean ====
section
/-! SUPPORT. For each shared operation, exactly when it answers a next state and which one. -/

namespace Sys2Proof.Machine

/-! ## Computations that may stop -/

theorem outcome_next (r : Res State) (t : State) : outcome r = .next t ↔ r = .ok t := by
  cases r with
  | ok s => simp [outcome]
  | error e => cases e <;> simp [outcome]

@[simp] theorem outcome_ok (t : State) : outcome (.ok t) = .next t := rfl

theorem bind_ok {α β : Type} (x : Res α) (f : α → Res β) (r : β) :
    (x >>= f) = .ok r ↔ ∃ a, x = .ok a ∧ f a = .ok r := by
  cases x <;> simp [bind, Except.bind]

theorem pure_ok {α : Type} (a r : α) : (pure a : Res α) = .ok r ↔ r = a := by
  simp [pure, Except.pure, eq_comm]

theorem faultIf_ok (p : Prop) [Decidable p] (r : Fault) (u : Unit) : faultIf p r = .ok u ↔ ¬ p := by
  unfold faultIf; split <;> simp_all

theorem refuseIf_ok (p : Prop) [Decidable p] (r : Refusal) (u : Unit) : refuseIf p r = .ok u ↔ ¬ p := by
  unfold refuseIf; split <;> simp_all

theorem exists_unit (p : Unit → Prop) : (∃ u, p u) ↔ p () := ⟨fun ⟨_, h⟩ => h, fun h => ⟨(), h⟩⟩

/-! ## Checks -/

theorem typeCheck_ok (t : TyCode) (ts : List TyCode) (c : TyCode) :
    typeCheck t ts = .ok c ↔ isFloaty t = false ∧ (∀ x ∈ ts, x = t) ∧ c = t := by
  simp only [typeCheck, bind_ok, refuseIf_ok, faultIf_ok, exists_unit, pure_ok]
  constructor
  · rintro ⟨h1, h2, h3⟩
    simp only [Bool.or_eq_true, not_or, Bool.not_eq_true, List.any_eq_true, decide_eq_true_eq, not_exists, not_and,
      not_not] at h1 h2
    exact ⟨h1.1, h2, h3⟩
  · rintro ⟨h1, h2, h3⟩
    refine ⟨?_, ?_, h3⟩
    · simp only [Bool.or_eq_true, not_or, Bool.not_eq_true, List.any_eq_false]
      exact ⟨h1, fun x hx => by rw [h2 x hx, h1]⟩
    · simpa using h2

theorem refuseFloaty_ok (ts : List TyCode) (u : Unit) : refuseFloaty ts = .ok u ↔ ∀ x ∈ ts, isFloaty x = false := by
  simp [refuseFloaty, refuseIf_ok]

theorem checkReads_ok (s : State) (l : List RegNum) (u : Unit) : s.checkReads l = .ok u ↔ s.readable l = true := by
  simp [State.checkReads, faultIf_ok]

/-- The one way in which an operand read stops. -/
theorem checkReads_error (s : State) (l : List RegNum) (h : s.readable l = false) :
    s.checkReads l = .error (.fault (.unwrittenRegister 28)) := by simp [State.checkReads, faultIf, h]

theorem checkZZ_ok (zz : BitVec 2) (u : Unit) : checkZZ zz = .ok u ↔ zz = 0 := by simp [checkZZ, refuseIf_ok]

theorem checkLoadU_ok (u : Bool) (x : Unit) : checkLoadU u = .ok x ↔ u = false := by simp [checkLoadU, refuseIf_ok]

theorem checkShiftImm_ok (n : Imm5) (x : Unit) : checkShiftImm n = .ok x ↔ isWide n = false := by
  simp [checkShiftImm, refuseIf_ok]

theorem checkCount_ok (w : Nat) (k : Int) (x : Unit) : checkCount w k = .ok x ↔ -(w : Int) < k ∧ k < w := by
  simp [checkCount, refuseIf_ok]

theorem locLen_ok (fo : Word) (p : Nat × Nat) :
    locLen fo = .ok p ↔ fo.toNat < 2 ^ 12 ∧ p = (fo.toNat / 2 ^ 6 % 2 ^ 6, fo.toNat % 2 ^ 6) := by
  simp only [locLen, bind_ok, refuseIf_ok, exists_unit, pure_ok]
  constructor <;> rintro ⟨h1, h2⟩ <;> exact ⟨by omega, h2⟩

/-- The 13-bit form of a descriptor never fails the check of `locLen`: it is its 12 bits (30_encoding.md R103, entry 21). -/
theorem locLen_wide (v : BitVec 12) :
    locLen (immDescriptor (.wide v)) = .ok (v.toNat / 2 ^ 6, v.toNat % 2 ^ 6) := by
  have h := v.isLt
  have hv : (immDescriptor (.wide v)).toNat = v.toNat := by simp only [immDescriptor, BitVec.toNat_setWidth]; omega
  rw [locLen_ok, hv]
  exact ⟨h, by rw [Nat.mod_eq_of_lt (a := v.toNat / 2 ^ 6) (by omega)]⟩

/-- Every other form of a descriptor is the immediate in displacement context. -/
theorem immDescriptor_of_not_wide (n : Imm5) (h : isWide n = false) : immDescriptor n = immVal n .disp := by
  cases n <;> first | rfl | cases h

theorem divide_ok (t : TyCode) (a b : Int) (p : Word × Word) :
    divide t a b = .ok p ↔ b ≠ 0 ∧ quotientFits t (a.tdiv b) = true ∧
      p = (BitVec.ofInt 32 (a.tdiv b), BitVec.ofInt 32 (a.tmod b)) := by
  simp only [divide, bind_ok, faultIf_ok, exists_unit, pure_ok]
  simp

/-- `t` is the end of an instruction that writes `d` and may update the residue: whatever an operation of that shape
answers, it changes nothing else. -/
def Ends (s t : State) (npc : Word) (d : RegNum) : Prop := ∃ v ty res, t = s.writeBack npc d v ty res

theorem Ends.mem {s t : State} {npc : Word} {d : RegNum} (h : Ends s t npc d) : t.mem = s.mem := by
  obtain ⟨v, ty, res, rfl⟩ := h; simp

theorem Ends.events {s t : State} {npc : Word} {d : RegNum} (h : Ends s t npc d) : t.events = s.events := by
  obtain ⟨v, ty, res, rfl⟩ := h; simp

/-! ## The operations that end in a write of D -/

theorem arith2_ends {s t : State} {f : Int → Int → Int} {upd : Bool} {d r rs : RegNum} (h : arith2 f upd d r rs s = .next t) :
    Ends s t (s.npc 3) d := by
  simp only [arith2, outcome_next, bind_ok, pure_ok] at h
  obtain ⟨_, _, _, _, rfl⟩ := h
  exact ⟨_, _, _, rfl⟩

theorem arith2I_ends {s t : State} {f : Int → Int → Int} {upd : Bool} {d r : RegNum} {n : Imm5} (h : arith2I f upd d r n s = .next t) :
    Ends s t (s.npc (3 + n.extLen)) d := by
  simp only [arith2I, outcome_next, bind_ok, pure_ok] at h
  obtain ⟨_, _, _, _, rfl⟩ := h
  exact ⟨_, _, _, rfl⟩

theorem arith3_ends {s t : State} {f : Int → Int → Int → Int} {d r rs rt : RegNum} {zz : BitVec 2} {u : Bool} (h : arith3 f d r rs rt zz u s = .next t) :
    Ends s t (s.npc 4) d := by
  simp only [arith3, outcome_next, bind_ok, pure_ok] at h
  obtain ⟨_, _, _, _, rfl⟩ := h
  exact ⟨_, _, _, rfl⟩

theorem arith3I_ends {s t : State} {f : Int → Int → Int → Int} {d r : RegNum} {n : Imm5} {rt : RegNum} {zz : BitVec 2} {u : Bool} (h : arith3I f d r n rt zz u s = .next t) :
    Ends s t (s.npc (4 + n.extLen)) d := by
  simp only [arith3I, outcome_next, bind_ok, pure_ok] at h
  obtain ⟨_, _, _, _, rfl⟩ := h
  exact ⟨_, _, _, rfl⟩

theorem execCmp_ends {s t : State} {d r rs : RegNum} (h : execCmp d r rs s = .next t) :
    Ends s t (s.npc 3) d := by
  simp only [execCmp, outcome_next, bind_ok, pure_ok] at h
  obtain ⟨_, _, _, _, rfl⟩ := h
  exact ⟨_, _, _, rfl⟩

theorem execCmpi_ends {s t : State} {d r : RegNum} {n : Imm5} (h : execCmpi d r n s = .next t) :
    Ends s t (s.npc (3 + n.extLen)) d := by
  simp only [execCmpi, outcome_next, bind_ok, pure_ok] at h
  obtain ⟨_, _, _, _, rfl⟩ := h
  exact ⟨_, _, _, rfl⟩

theorem bool2_ends {s t : State} {f : Word → Word → Word} {d r rs : RegNum} (h : bool2 f d r rs s = .next t) :
    Ends s t (s.npc 3) d := by
  simp only [bool2, outcome_next, bind_ok, pure_ok] at h
  obtain ⟨_, _, rfl⟩ := h
  exact ⟨_, _, _, rfl⟩

theorem bool2I_ends {s t : State} {f : Word → Word → Word} {d r : RegNum} {n : Imm5} (h : bool2I f d r n s = .next t) :
    Ends s t (s.npc (3 + n.extLen)) d := by
  simp only [bool2I, outcome_next, bind_ok, pure_ok] at h
  obtain ⟨_, _, rfl⟩ := h
  exact ⟨_, _, _, rfl⟩

theorem bool3_ends {s t : State} {f : Word → Word → Word → Word} {d r rs rt : RegNum} {zz : BitVec 2} {u : Bool} (h : bool3 f d r rs rt zz u s = .next t) :
    Ends s t (s.npc 4) d := by
  simp only [bool3, outcome_next, bind_ok, pure_ok] at h
  obtain ⟨_, _, rfl⟩ := h
  exact ⟨_, _, _, rfl⟩

theorem bool3I_ends {s t : State} {f : Word → Word → Word → Word} {d r : RegNum} {n : Imm5} {rt : RegNum} {zz : BitVec 2} {u : Bool} (h : bool3I f d r n rt zz u s = .next t) :
    Ends s t (s.npc (4 + n.extLen)) d := by
  simp only [bool3I, outcome_next, bind_ok, pure_ok] at h
  obtain ⟨_, _, rfl⟩ := h
  exact ⟨_, _, _, rfl⟩

theorem divide2_ends {s t : State} {upd : Bool} {d r rs : RegNum} (h : divide2 upd d r rs s = .next t) :
    Ends s t (s.npc 3) d := by
  simp only [divide2, outcome_next, bind_ok, pure_ok] at h
  obtain ⟨_, _, _, _, _, _, rfl⟩ := h
  exact ⟨_, _, _, rfl⟩

theorem divide2I_ends {s t : State} {upd : Bool} {d r : RegNum} {n : Imm5} (h : divide2I upd d r n s = .next t) :
    Ends s t (s.npc (3 + n.extLen)) d := by
  simp only [divide2I, outcome_next, bind_ok, pure_ok] at h
  obtain ⟨_, _, _, _, _, _, rfl⟩ := h
  exact ⟨_, _, _, rfl⟩

theorem execDdiv_ends {s t : State} {d r rs rt : RegNum} {zz : BitVec 2} {u : Bool} (h : execDdiv d r rs rt zz u s = .next t) :
    Ends s t (s.npc 4) d := by
  simp only [execDdiv, outcome_next, bind_ok, pure_ok] at h
  obtain ⟨_, _, _, _, _, _, _, _, rfl⟩ := h
  exact ⟨_, _, _, rfl⟩

theorem execDdivi_ends {s t : State} {d r : RegNum} {n : Imm5} {rt : RegNum} {zz : BitVec 2} {u : Bool} (h : execDdivi d r n rt zz u s = .next t) :
    Ends s t (s.npc (4 + n.extLen)) d := by
  simp only [execDdivi, outcome_next, bind_ok, pure_ok] at h
  obtain ⟨_, _, _, _, _, _, _, _, rfl⟩ := h
  exact ⟨_, _, _, rfl⟩

theorem shift1_ends {s t : State} {c : Int → Res Unit} {f : Word → Int → Word} {d r rs : RegNum} (h : shift1 c f d r rs s = .next t) :
    Ends s t (s.npc 3) d := by
  simp only [shift1, outcome_next, bind_ok, pure_ok] at h
  obtain ⟨_, _, _, _, _, _, rfl⟩ := h
  exact ⟨_, _, _, rfl⟩

theorem shift1I_ends {s t : State} {c : Int → Res Unit} {f : Word → Int → Word} {d r : RegNum} {n : Imm5} (h : shift1I c f d r n s = .next t) :
    Ends s t (s.npc (3 + n.extLen)) d := by
  simp only [shift1I, outcome_next, bind_ok, pure_ok] at h
  obtain ⟨_, _, _, _, _, _, _, _, rfl⟩ := h
  exact ⟨_, _, _, rfl⟩

theorem shift2_ends {s t : State} {c : Int → Res Unit} {f : BitVec 64 → Int → BitVec 64} {d r rs rt : RegNum} {zz : BitVec 2} {u : Bool} (h : shift2 c f d r rs rt zz u s = .next t) :
    Ends s t (s.npc 4) d := by
  simp only [shift2, outcome_next, bind_ok, pure_ok] at h
  obtain ⟨_, _, _, _, _, _, _, _, rfl⟩ := h
  exact ⟨_, _, _, rfl⟩

theorem shift2I_ends {s t : State} {c : Int → Res Unit} {f : BitVec 64 → Int → BitVec 64} {d r : RegNum} {n : Imm5} {rt : RegNum} {zz : BitVec 2} {u : Bool} (h : shift2I c f d r n rt zz u s = .next t) :
    Ends s t (s.npc (4 + n.extLen)) d := by
  simp only [shift2I, outcome_next, bind_ok, pure_ok] at h
  obtain ⟨_, _, _, _, _, _, _, _, _, _, rfl⟩ := h
  exact ⟨_, _, _, rfl⟩

theorem extract1_ends {s t : State} {npc : Word} {d r : RegNum} {rd : List RegNum} {fo : Word} (h : extract1 npc d r rd fo s = .next t) :
    Ends s t npc d := by
  simp only [extract1, outcome_next, bind_ok, pure_ok] at h
  obtain ⟨_, _, _, _, _, _, _, _, rfl⟩ := h
  exact ⟨_, _, _, rfl⟩

theorem extract2_ends {s t : State} {npc : Word} {d r rt : RegNum} {rd : List RegNum} {fo : Word} {zz : BitVec 2} {u : Bool} (h : extract2 npc d r rt rd fo zz u s = .next t) :
    Ends s t npc d := by
  simp only [extract2, outcome_next, bind_ok, pure_ok] at h
  obtain ⟨_, _, _, _, _, _, _, _, _, _, rfl⟩ := h
  exact ⟨_, _, _, rfl⟩

theorem insert2_ends {s t : State} {npc : Word} {d r rt : RegNum} {rd : List RegNum} {fo : Word} {zz : BitVec 2} {u : Bool} (h : insert2 npc d r rt rd fo zz u s = .next t) :
    Ends s t npc d := by
  simp only [insert2, outcome_next, bind_ok, pure_ok] at h
  obtain ⟨_, _, _, _, _, _, _, _, _, _, rfl⟩ := h
  exact ⟨_, _, _, rfl⟩

theorem select2_ends {s t : State} {f : TyCode → Word → Word → Word} {d r rs : RegNum} (h : select2 f d r rs s = .next t) :
    Ends s t (s.npc 3) d := by
  simp only [select2, outcome_next, bind_ok, pure_ok] at h
  obtain ⟨_, _, _, _, rfl⟩ := h
  exact ⟨_, _, _, rfl⟩

theorem select2I_ends {s t : State} {f : TyCode → Word → Word → Word} {d r : RegNum} {n : Imm5} (h : select2I f d r n s = .next t) :
    Ends s t (s.npc (3 + n.extLen)) d := by
  simp only [select2I, outcome_next, bind_ok, pure_ok] at h
  obtain ⟨_, _, _, _, rfl⟩ := h
  exact ⟨_, _, _, rfl⟩

theorem select3_ends {s t : State} {f : TyCode → Word → Word → Word → Word} {d r rs rt : RegNum} {zz : BitVec 2} {u : Bool} (h : select3 f d r rs rt zz u s = .next t) :
    Ends s t (s.npc 4) d := by
  simp only [select3, outcome_next, bind_ok, pure_ok] at h
  obtain ⟨_, _, _, _, _, _, rfl⟩ := h
  exact ⟨_, _, _, rfl⟩

theorem select3I_ends {s t : State} {f : TyCode → Word → Word → Word → Word} {d r : RegNum} {n : Imm5} {rt : RegNum} {zz : BitVec 2} {u : Bool} (h : select3I f d r n rt zz u s = .next t) :
    Ends s t (s.npc (4 + n.extLen)) d := by
  simp only [select3I, outcome_next, bind_ok, pure_ok] at h
  obtain ⟨_, _, _, _, _, _, rfl⟩ := h
  exact ⟨_, _, _, rfl⟩

theorem single_ends {s t : State} {f : TyCode → Word → Word} {d rs : RegNum} {z : Bool} (h : single f d rs z s = .next t) :
    Ends s t (s.npc 3) d := by
  simp only [single, outcome_next, bind_ok, pure_ok] at h
  obtain ⟨_, _, _, _, rfl⟩ := h
  exact ⟨_, _, _, rfl⟩

theorem execMov_ends {s t : State} {d rs : RegNum} {z : Bool} (h : execMov d rs z s = .next t) :
    Ends s t (s.npc 3) d := by
  simp only [execMov, outcome_next, bind_ok, pure_ok] at h
  obtain ⟨_, _, _, _, rfl⟩ := h
  exact ⟨_, _, _, rfl⟩

theorem execNot_ends {s t : State} {d rs : RegNum} {z : Bool} (h : execNot d rs z s = .next t) :
    Ends s t (s.npc 3) d := by
  simp only [execNot, outcome_next, bind_ok, pure_ok] at h
  obtain ⟨_, _, rfl⟩ := h
  exact ⟨_, _, _, rfl⟩

theorem execSqrt_ends {s t : State} {d rs : RegNum} {z : Bool} (h : execSqrt d rs z s = .next t) :
    Ends s t (s.npc 3) d := by
  simp only [execSqrt, outcome_next, bind_ok, pure_ok] at h
  obtain ⟨_, _, _, _, _, _, rfl⟩ := h
  exact ⟨_, _, _, rfl⟩

theorem leaDbjs_ends {s t : State} {ds : Nat} {d b j rs : RegNum} {y : BitVec 2} {u : Bool} (h : leaDbjs ds d b j rs y u s = .next t) :
    Ends s t (s.npc 4) d := by
  simp only [leaDbjs, outcome_next, bind_ok, pure_ok] at h
  obtain ⟨_, _, _, _, rfl⟩ := h
  exact ⟨_, _, _, rfl⟩

theorem leaDbjn_ends {s t : State} {ds : Nat} {d b j : RegNum} {n : Imm5} {y : BitVec 2} {u : Bool} (h : leaDbjn ds d b j n y u s = .next t) :
    Ends s t (s.npc (4 + n.extLen)) d := by
  simp only [leaDbjn, outcome_next, bind_ok, pure_ok] at h
  obtain ⟨_, _, _, _, rfl⟩ := h
  exact ⟨_, _, _, rfl⟩

/-! ## Loads and stores -/

theorem load_ok (t : TyCode) (ds : Nat) (npc : Word) (d : RegNum) (ea : Word) (s u : State) :
    load t ds npc d ea s = .ok u ↔
      (∀ k < ds, (s.mem.kind (ea + BitVec.ofNat 32 k).toNat).isSome = true) ∧
      u = s.writeBack npc d (lengthen t (BitVec.ofNat (8 * ds) (bytesToNat (s.mem.bytes ea ds)))) t .keep := by
  simp only [load, bind_ok, pure_ok]
  constructor
  · rintro ⟨v, h1, h2⟩
    obtain ⟨h3, h4⟩ := memRead_ok h1
    exact ⟨h3, by rw [h2, h4]⟩
  · rintro ⟨h1, h2⟩
    exact ⟨_, memRead_of_held s.mem ea ds h1, h2⟩

theorem store_ok (ds : Nat) (npc ea v : Word) (s u : State) (h : store ds npc ea v s = .ok u) :
    (∀ k < ds, (s.mem.kind (ea + BitVec.ofNat 32 k).toNat).isSome = true) ∧
      (∀ k < ds, s.mem.kind (ea + BitVec.ofNat 32 k).toNat ≠ some .text) ∧
      u = { s with mem := s.mem.setBytes ea (natToBytes ds v.toNat), pc := npc } := by
  simp only [store, bind_ok, pure_ok] at h
  obtain ⟨m, h1, h2⟩ := h
  obtain ⟨h3, h4, h5⟩ := memWrite_ok h1
  exact ⟨h3, h4, by rw [h2, h5]⟩

theorem natToBytes_get (n v k : Nat) (h : k < (natToBytes n v).length) :
    (natToBytes n v)[k] = BitVec.ofNat 8 (v / 256 ^ k) := by
  induction n generalizing v k with
  | zero => simp [natToBytes] at h
  | succ n ih =>
    cases k with
    | zero => simp [natToBytes]
    | succ k =>
      simp only [natToBytes, List.getElem_cons_succ]
      rw [ih, Nat.div_div_eq_div_mul, Nat.pow_succ, Nat.mul_comm]

/-- Everything a store does, in the terms of the claims. -/
theorem store_stores (ds : Nat) (npc ea v : Word) (s u : State) (hd : ds ≤ 4) (hi : s.Inv)
    (h : store ds npc ea v s = .ok u) : Stores s u npc ea ds v := by
  obtain ⟨h1, h2, h3⟩ := store_ok ds npc ea v s u h
  subst h3
  refine ⟨rfl, rfl, fun i hi _ => by simp [hi], ?_, ?_, fun a => by simp, rfl, rfl⟩
  · intro k hk
    have hl : k < (natToBytes ds v.toNat).length := by simpa using hk
    show (s.mem.setBytes ea (natToBytes ds v.toNat)).byte _ = _
    rw [Memory.byte_setBytes_in s.mem ea _ k hi (by simp; omega) (by simpa using h1) hl, natToBytes_get]
    apply BitVec.eq_of_toNat_eq
    simp only [BitVec.toNat_ofNat, BitVec.extractLsb'_toNat, Nat.shiftRight_eq_div_pow, Nat.pow_mul]
  · intro a ha
    exact Memory.byte_setBytes_out s.mem ea _ a (by simpa using ha)

theorem loadDbj_ends {s t : State} {ty : TyCode} {ds : Nat} {d b j : RegNum} (h : loadDbj ty ds d b j s = .next t) :
    Ends s t (s.npc 3) d := by
  simp only [loadDbj, outcome_next, bind_ok, load_ok] at h
  obtain ⟨_, _, _, rfl⟩ := h
  exact ⟨_, _, _, rfl⟩

theorem loadDbn_ends {s t : State} {ty : TyCode} {ds : Nat} {d b : RegNum} {n : Imm5} (h : loadDbn ty ds d b n s = .next t) :
    Ends s t (s.npc (3 + n.extLen)) d := by
  simp only [loadDbn, outcome_next, load_ok] at h
  obtain ⟨_, rfl⟩ := h
  exact ⟨_, _, _, rfl⟩

theorem loadDbjs_ends {s t : State} {ty : TyCode} {ds : Nat} {d b j rs : RegNum} {y : BitVec 2} {u : Bool} (h : loadDbjs ty ds d b j rs y u s = .next t) :
    Ends s t (s.npc 4) d := by
  simp only [loadDbjs, outcome_next, bind_ok, load_ok] at h
  obtain ⟨_, _, _, _, _, rfl⟩ := h
  exact ⟨_, _, _, rfl⟩

theorem loadDbjn_ends {s t : State} {ty : TyCode} {ds : Nat} {d b j : RegNum} {n : Imm5} {y : BitVec 2} {u : Bool} (h : loadDbjn ty ds d b j n y u s = .next t) :
    Ends s t (s.npc (4 + n.extLen)) d := by
  simp only [loadDbjn, outcome_next, bind_ok, load_ok] at h
  obtain ⟨_, _, _, _, _, rfl⟩ := h
  exact ⟨_, _, _, rfl⟩

/-! ## Fetching -/

/-- A fetch of bytes that are text and do not pass the end of the address space answers them. -/
theorem fetchBytes_of_text (m : Memory) (a n : Nat) (h1 : a + n ≤ 2 ^ 32) (h2 : ∀ k < n, m.kind (a + k) = some .text) :
    fetchBytes m a n = .ok ((List.range' a n).map m.byte) := by
  have key : ∀ (p : Nat → Bool) (n a : Nat), (∀ k < n, p (a + k) = false) → firstAddr p a n = none := by
    intro p n
    induction n with
    | zero => intros; rfl
    | succ n ih =>
      intro a h
      rw [firstAddr, if_neg (by simpa using h 0 (by omega))]
      exact ih (a + 1) fun k hk => by rw [Nat.add_right_comm]; exact h (k + 1) (by omega)
  unfold fetchBytes
  rw [if_neg (by omega), key _ n a fun k hk => by simp [h2 k hk]]
  simp only
  rw [key _ n a fun k hk => by simp [h2 k hk]]

end Sys2Proof.Machine
end

