-- ==== Sys2Proof/Laws/PerInstr.lean ====
section
/-! SUPPORT. The family of per-instruction statements `EncodedLength`: the words of a well-formed instruction are as many
bytes as its length says, at least 1 and at most 12 (30_encoding.md R90, R96). -/

namespace Sys2Proof

@[simp] theorem leBytes_length (k w : Nat) : (leBytes k w).length = k := by
  induction k generalizing w with
  | zero => rfl
  | succ k ih => simp [leBytes, ih]

theorem extLen_le (f : Nat) : extLen f ≤ 4 := by unfold extLen; split <;> (try split) <;> (try split) <;> omega

theorem Imm5.extLen_le (n : Imm5) : n.extLen ≤ 4 := Sys2Proof.extLen_le n.field

/-- An immediate has as many extension bytes as its field announces. -/
@[simp] theorem Imm5.ext_length (n : Imm5) : n.ext.length = n.extLen := by
  cases n with
  | short v => have := v.isLt; show 0 = Sys2Proof.extLen v.toNat; unfold Sys2Proof.extLen; rw [if_pos (by omega)]
  | neg v =>
    have := v.isLt
    show 0 = Sys2Proof.extLen (12 + v.toNat)
    unfold Sys2Proof.extLen; rw [if_neg (by omega), if_neg (by omega), if_pos (by omega)]
  | wide v =>
    show (leBytes 1 v.toNat).length = Sys2Proof.extLen (16 + v.toNat / 256)
    unfold Sys2Proof.extLen; rw [if_neg (by omega), if_neg (by omega), if_neg (by omega)]; simp
  | data1 v => exact leBytes_length 1 _
  | data2 v => exact leBytes_length 2 _
  | data3 v => exact leBytes_length 3 _
  | data4 v => exact leBytes_length 4 _

theorem encDrs_length (op : Nat) (d r rs : RegNum) : (encDrs op d r rs).length = 3 := by simp [encDrs]
theorem encDrn_length (op i : Nat) (d r : RegNum) (n : Imm5) : (encDrn op i d r n).length = 3 + n.extLen := by simp [encDrn]
theorem encDcn24_length (op c : Nat) (d : RegNum) (n : BitVec 8) : (encDcn24 op c d n).length = 3 := by simp [encDcn24]
theorem encDcn32_length (op c : Nat) (d : RegNum) (n : BitVec 16) : (encDcn32 op c d n).length = 4 := by simp [encDcn32]
theorem encDan_length (k op : Nat) (d : RegNum) (a : TyCode) (n : Nat) : (encDan k op d a n).length = k := by simp [encDan]
theorem encDrst_length (op : Nat) (d r rs rt : RegNum) (zz : BitVec 2) (u : Bool) : (encDrst op d r rs rt zz u).length = 4 := by
  simp [encDrst]
theorem encDrnt_length (op : Nat) (d r : RegNum) (n : Imm5) (rt : RegNum) (zz : BitVec 2) (u : Bool) :
    (encDrnt op d r n rt zz u).length = 4 + n.extLen := by simp [encDrnt]
theorem encMbjs_length (op : Nat) (m : Imm5) (b j rs : RegNum) (y : BitVec 2) :
    (encMbjs op m b j rs y).length = 4 + m.extLen := by simp [encMbjs]
theorem encMbjn_length (op : Nat) (m : Imm5) (b j : RegNum) (n : Imm5) (y : BitVec 2) :
    (encMbjn op m b j n y).length = 4 + n.extLen + m.extLen := by simp [encMbjn, Nat.add_assoc]
theorem encDs_length (m : SingleOp) (d rs : RegNum) (z : Bool) (h : m.assigned = true) : (encDs m d rs z).length = 3 := by
  unfold SingleOp.assigned at h; unfold encDs; split at h <;> simp_all
theorem encDisp_length (op : Nat) (n : Disp) : (encDisp op n).length = n.length := by cases n <;> simp [encDisp, Disp.length]

namespace Laws.EncodedLength

/-- The statement of the family about one instruction. -/
def Statement (i : Instr) : Prop :=
  WellFormed i = true → (encode i).length = instrLength i ∧ 1 ≤ instrLength i ∧ instrLength i ≤ 12

theorem bound3 (n : Imm5) : 1 ≤ 3 + n.extLen ∧ 3 + n.extLen ≤ 12 := by have := n.extLen_le; omega
theorem bound4 (n : Imm5) : 1 ≤ 4 + n.extLen ∧ 4 + n.extLen ≤ 12 := by have := n.extLen_le; omega
theorem bound44 (n m : Imm5) : 1 ≤ 4 + n.extLen + m.extLen ∧ 4 + n.extLen + m.extLen ≤ 12 := by
  have := n.extLen_le; have := m.extLen_le; omega
theorem boundK {k : Nat} (h : (decide (1 ≤ k) && decide (k ≤ 12)) = true) : 1 ≤ k ∧ k ≤ 12 := by simpa using h
theorem boundDisp (n : Disp) : 1 ≤ n.length ∧ n.length ≤ 12 := by cases n <;> simp [Disp.length]

theorem br (n : Disp) : Statement (.br n) := fun _ => ⟨encDisp_length _ _, boundDisp n⟩
theorem callr (n : Disp) : Statement (.callr n) := fun _ => ⟨encDisp_length _ _, boundDisp n⟩
theorem bbs (d : RegNum) (r : RegNum) (n : Imm5) : Statement (.bbs d r n) := fun _ => ⟨encDrn_length _ _ _ _ _, bound3 n⟩
theorem bbc (d : RegNum) (r : RegNum) (n : Imm5) : Statement (.bbc d r n) := fun _ => ⟨encDrn_length _ _ _ _ _, bound3 n⟩
theorem brz24 (d : RegNum) (n : BitVec 8) : Statement (.brz24 d n) := fun _ => ⟨encDcn24_length _ _ _ _, boundK (k := 3) rfl⟩
theorem brgz24 (d : RegNum) (n : BitVec 8) : Statement (.brgz24 d n) := fun _ => ⟨encDcn24_length _ _ _ _, boundK (k := 3) rfl⟩
theorem brgez24 (d : RegNum) (n : BitVec 8) : Statement (.brgez24 d n) := fun _ => ⟨encDcn24_length _ _ _ _, boundK (k := 3) rfl⟩
theorem brev24 (d : RegNum) (n : BitVec 8) : Statement (.brev24 d n) := fun _ => ⟨encDcn24_length _ _ _ _, boundK (k := 3) rfl⟩
theorem brnz24 (d : RegNum) (n : BitVec 8) : Statement (.brnz24 d n) := fun _ => ⟨encDcn24_length _ _ _ _, boundK (k := 3) rfl⟩
theorem brlez24 (d : RegNum) (n : BitVec 8) : Statement (.brlez24 d n) := fun _ => ⟨encDcn24_length _ _ _ _, boundK (k := 3) rfl⟩
theorem brlz24 (d : RegNum) (n : BitVec 8) : Statement (.brlz24 d n) := fun _ => ⟨encDcn24_length _ _ _ _, boundK (k := 3) rfl⟩
theorem brod24 (d : RegNum) (n : BitVec 8) : Statement (.brod24 d n) := fun _ => ⟨encDcn24_length _ _ _ _, boundK (k := 3) rfl⟩
theorem brz32 (d : RegNum) (n : BitVec 16) : Statement (.brz32 d n) := fun _ => ⟨encDcn32_length _ _ _ _, boundK (k := 4) rfl⟩
theorem brgz32 (d : RegNum) (n : BitVec 16) : Statement (.brgz32 d n) := fun _ => ⟨encDcn32_length _ _ _ _, boundK (k := 4) rfl⟩
theorem brgez32 (d : RegNum) (n : BitVec 16) : Statement (.brgez32 d n) := fun _ => ⟨encDcn32_length _ _ _ _, boundK (k := 4) rfl⟩
theorem brev32 (d : RegNum) (n : BitVec 16) : Statement (.brev32 d n) := fun _ => ⟨encDcn32_length _ _ _ _, boundK (k := 4) rfl⟩
theorem brnz32 (d : RegNum) (n : BitVec 16) : Statement (.brnz32 d n) := fun _ => ⟨encDcn32_length _ _ _ _, boundK (k := 4) rfl⟩
theorem brlez32 (d : RegNum) (n : BitVec 16) : Statement (.brlez32 d n) := fun _ => ⟨encDcn32_length _ _ _ _, boundK (k := 4) rfl⟩
theorem brlz32 (d : RegNum) (n : BitVec 16) : Statement (.brlz32 d n) := fun _ => ⟨encDcn32_length _ _ _ _, boundK (k := 4) rfl⟩
theorem brod32 (d : RegNum) (n : BitVec 16) : Statement (.brod32 d n) := fun _ => ⟨encDcn32_length _ _ _ _, boundK (k := 4) rfl⟩
theorem ldi8 (d : RegNum) (a : TyCode) (n : BitVec 8) : Statement (.ldi8 d a n) := fun _ => ⟨encDan_length _ _ _ _ _, boundK (k := 3) rfl⟩
theorem ldi16 (d : RegNum) (a : TyCode) (n : BitVec 16) : Statement (.ldi16 d a n) := fun _ => ⟨encDan_length _ _ _ _ _, boundK (k := 4) rfl⟩
theorem ldi24 (d : RegNum) (a : TyCode) (n : BitVec 24) : Statement (.ldi24 d a n) := fun _ => ⟨encDan_length _ _ _ _ _, boundK (k := 5) rfl⟩
theorem ldi32 (d : RegNum) (a : TyCode) (n : BitVec 32) : Statement (.ldi32 d a n) := fun _ => ⟨encDan_length _ _ _ _ _, boundK (k := 6) rfl⟩
theorem enter (f : BitVec 16) : Statement (.enter f) := fun _ => ⟨leBytes_length _ _, boundK (k := 3) rfl⟩
theorem exit (f : BitVec 16) : Statement (.exit f) := fun _ => ⟨leBytes_length _ _, boundK (k := 3) rfl⟩
theorem st8Dbj (d : RegNum) (b : RegNum) (j : RegNum) : Statement (.st8Dbj d b j) := fun _ => ⟨encDrs_length _ _ _ _, boundK (k := 3) rfl⟩
theorem st8Dbn (d : RegNum) (b : RegNum) (n : Imm5) : Statement (.st8Dbn d b n) := fun _ => ⟨encDrn_length _ _ _ _ _, bound3 n⟩
theorem st8Dbjs (d : RegNum) (b : RegNum) (j : RegNum) (rs : RegNum) (y : BitVec 2) : Statement (.st8Dbjs d b j rs y) := fun _ => ⟨encDrst_length _ _ _ _ _ _ _, boundK (k := 4) rfl⟩
theorem st8Dbjn (d : RegNum) (b : RegNum) (j : RegNum) (n : Imm5) (y : BitVec 2) : Statement (.st8Dbjn d b j n y) := fun _ => ⟨encDrnt_length _ _ _ _ _ _ _, bound4 n⟩
theorem st8Mbjs (m : Imm5) (b : RegNum) (j : RegNum) (rs : RegNum) (y : BitVec 2) : Statement (.st8Mbjs m b j rs y) := fun _ => ⟨encMbjs_length _ _ _ _ _ _, bound4 m⟩
theorem st8Mbjn (m : Imm5) (b : RegNum) (j : RegNum) (n : Imm5) (y : BitVec 2) : Statement (.st8Mbjn m b j n y) := fun _ => ⟨encMbjn_length _ _ _ _ _ _, bound44 n m⟩
theorem st16Dbj (d : RegNum) (b : RegNum) (j : RegNum) : Statement (.st16Dbj d b j) := fun _ => ⟨encDrs_length _ _ _ _, boundK (k := 3) rfl⟩
theorem st16Dbn (d : RegNum) (b : RegNum) (n : Imm5) : Statement (.st16Dbn d b n) := fun _ => ⟨encDrn_length _ _ _ _ _, bound3 n⟩
theorem st16Dbjs (d : RegNum) (b : RegNum) (j : RegNum) (rs : RegNum) (y : BitVec 2) : Statement (.st16Dbjs d b j rs y) := fun _ => ⟨encDrst_length _ _ _ _ _ _ _, boundK (k := 4) rfl⟩
theorem st16Dbjn (d : RegNum) (b : RegNum) (j : RegNum) (n : Imm5) (y : BitVec 2) : Statement (.st16Dbjn d b j n y) := fun _ => ⟨encDrnt_length _ _ _ _ _ _ _, bound4 n⟩
theorem st16Mbjs (m : Imm5) (b : RegNum) (j : RegNum) (rs : RegNum) (y : BitVec 2) : Statement (.st16Mbjs m b j rs y) := fun _ => ⟨encMbjs_length _ _ _ _ _ _, bound4 m⟩
theorem st16Mbjn (m : Imm5) (b : RegNum) (j : RegNum) (n : Imm5) (y : BitVec 2) : Statement (.st16Mbjn m b j n y) := fun _ => ⟨encMbjn_length _ _ _ _ _ _, bound44 n m⟩
theorem st24Dbj (d : RegNum) (b : RegNum) (j : RegNum) : Statement (.st24Dbj d b j) := fun _ => ⟨encDrs_length _ _ _ _, boundK (k := 3) rfl⟩
theorem st24Dbn (d : RegNum) (b : RegNum) (n : Imm5) : Statement (.st24Dbn d b n) := fun _ => ⟨encDrn_length _ _ _ _ _, bound3 n⟩
theorem st24Dbjs (d : RegNum) (b : RegNum) (j : RegNum) (rs : RegNum) (y : BitVec 2) : Statement (.st24Dbjs d b j rs y) := fun _ => ⟨encDrst_length _ _ _ _ _ _ _, boundK (k := 4) rfl⟩
theorem st24Dbjn (d : RegNum) (b : RegNum) (j : RegNum) (n : Imm5) (y : BitVec 2) : Statement (.st24Dbjn d b j n y) := fun _ => ⟨encDrnt_length _ _ _ _ _ _ _, bound4 n⟩
theorem st24Mbjs (m : Imm5) (b : RegNum) (j : RegNum) (rs : RegNum) (y : BitVec 2) : Statement (.st24Mbjs m b j rs y) := fun _ => ⟨encMbjs_length _ _ _ _ _ _, bound4 m⟩
theorem st24Mbjn (m : Imm5) (b : RegNum) (j : RegNum) (n : Imm5) (y : BitVec 2) : Statement (.st24Mbjn m b j n y) := fun _ => ⟨encMbjn_length _ _ _ _ _ _, bound44 n m⟩
theorem st32Dbj (d : RegNum) (b : RegNum) (j : RegNum) : Statement (.st32Dbj d b j) := fun _ => ⟨encDrs_length _ _ _ _, boundK (k := 3) rfl⟩
theorem st32Dbn (d : RegNum) (b : RegNum) (n : Imm5) : Statement (.st32Dbn d b n) := fun _ => ⟨encDrn_length _ _ _ _ _, bound3 n⟩
theorem st32Dbjs (d : RegNum) (b : RegNum) (j : RegNum) (rs : RegNum) (y : BitVec 2) : Statement (.st32Dbjs d b j rs y) := fun _ => ⟨encDrst_length _ _ _ _ _ _ _, boundK (k := 4) rfl⟩
theorem st32Dbjn (d : RegNum) (b : RegNum) (j : RegNum) (n : Imm5) (y : BitVec 2) : Statement (.st32Dbjn d b j n y) := fun _ => ⟨encDrnt_length _ _ _ _ _ _ _, bound4 n⟩
theorem st32Mbjs (m : Imm5) (b : RegNum) (j : RegNum) (rs : RegNum) (y : BitVec 2) : Statement (.st32Mbjs m b j rs y) := fun _ => ⟨encMbjs_length _ _ _ _ _ _, bound4 m⟩
theorem st32Mbjn (m : Imm5) (b : RegNum) (j : RegNum) (n : Imm5) (y : BitVec 2) : Statement (.st32Mbjn m b j n y) := fun _ => ⟨encMbjn_length _ _ _ _ _ _, bound44 n m⟩
theorem ldu8Dbj (d : RegNum) (b : RegNum) (j : RegNum) : Statement (.ldu8Dbj d b j) := fun _ => ⟨encDrs_length _ _ _ _, boundK (k := 3) rfl⟩
theorem ldu8Dbn (d : RegNum) (b : RegNum) (n : Imm5) : Statement (.ldu8Dbn d b n) := fun _ => ⟨encDrn_length _ _ _ _ _, bound3 n⟩
theorem ldu8Dbjs (d : RegNum) (b : RegNum) (j : RegNum) (rs : RegNum) (y : BitVec 2) (u : Bool) : Statement (.ldu8Dbjs d b j rs y u) := fun _ => ⟨encDrst_length _ _ _ _ _ _ _, boundK (k := 4) rfl⟩
theorem ldu8Dbjn (d : RegNum) (b : RegNum) (j : RegNum) (n : Imm5) (y : BitVec 2) (u : Bool) : Statement (.ldu8Dbjn d b j n y u) := fun _ => ⟨encDrnt_length _ _ _ _ _ _ _, bound4 n⟩
theorem ldu16Dbj (d : RegNum) (b : RegNum) (j : RegNum) : Statement (.ldu16Dbj d b j) := fun _ => ⟨encDrs_length _ _ _ _, boundK (k := 3) rfl⟩
theorem ldu16Dbn (d : RegNum) (b : RegNum) (n : Imm5) : Statement (.ldu16Dbn d b n) := fun _ => ⟨encDrn_length _ _ _ _ _, bound3 n⟩
theorem ldu16Dbjs (d : RegNum) (b : RegNum) (j : RegNum) (rs : RegNum) (y : BitVec 2) (u : Bool) : Statement (.ldu16Dbjs d b j rs y u) := fun _ => ⟨encDrst_length _ _ _ _ _ _ _, boundK (k := 4) rfl⟩
theorem ldu16Dbjn (d : RegNum) (b : RegNum) (j : RegNum) (n : Imm5) (y : BitVec 2) (u : Bool) : Statement (.ldu16Dbjn d b j n y u) := fun _ => ⟨encDrnt_length _ _ _ _ _ _ _, bound4 n⟩
theorem ldu24Dbj (d : RegNum) (b : RegNum) (j : RegNum) : Statement (.ldu24Dbj d b j) := fun _ => ⟨encDrs_length _ _ _ _, boundK (k := 3) rfl⟩
theorem ldu24Dbn (d : RegNum) (b : RegNum) (n : Imm5) : Statement (.ldu24Dbn d b n) := fun _ => ⟨encDrn_length _ _ _ _ _, bound3 n⟩
theorem ldu24Dbjs (d : RegNum) (b : RegNum) (j : RegNum) (rs : RegNum) (y : BitVec 2) (u : Bool) : Statement (.ldu24Dbjs d b j rs y u) := fun _ => ⟨encDrst_length _ _ _ _ _ _ _, boundK (k := 4) rfl⟩
theorem ldu24Dbjn (d : RegNum) (b : RegNum) (j : RegNum) (n : Imm5) (y : BitVec 2) (u : Bool) : Statement (.ldu24Dbjn d b j n y u) := fun _ => ⟨encDrnt_length _ _ _ _ _ _ _, bound4 n⟩
theorem ldu32Dbj (d : RegNum) (b : RegNum) (j : RegNum) : Statement (.ldu32Dbj d b j) := fun _ => ⟨encDrs_length _ _ _ _, boundK (k := 3) rfl⟩
theorem ldu32Dbn (d : RegNum) (b : RegNum) (n : Imm5) : Statement (.ldu32Dbn d b n) := fun _ => ⟨encDrn_length _ _ _ _ _, bound3 n⟩
theorem ldu32Dbjs (d : RegNum) (b : RegNum) (j : RegNum) (rs : RegNum) (y : BitVec 2) (u : Bool) : Statement (.ldu32Dbjs d b j rs y u) := fun _ => ⟨encDrst_length _ _ _ _ _ _ _, boundK (k := 4) rfl⟩
theorem ldu32Dbjn (d : RegNum) (b : RegNum) (j : RegNum) (n : Imm5) (y : BitVec 2) (u : Bool) : Statement (.ldu32Dbjn d b j n y u) := fun _ => ⟨encDrnt_length _ _ _ _ _ _ _, bound4 n⟩
theorem ld8Dbj (d : RegNum) (b : RegNum) (j : RegNum) : Statement (.ld8Dbj d b j) := fun _ => ⟨encDrs_length _ _ _ _, boundK (k := 3) rfl⟩
theorem ld8Dbn (d : RegNum) (b : RegNum) (n : Imm5) : Statement (.ld8Dbn d b n) := fun _ => ⟨encDrn_length _ _ _ _ _, bound3 n⟩
theorem ld8Dbjs (d : RegNum) (b : RegNum) (j : RegNum) (rs : RegNum) (y : BitVec 2) (u : Bool) : Statement (.ld8Dbjs d b j rs y u) := fun _ => ⟨encDrst_length _ _ _ _ _ _ _, boundK (k := 4) rfl⟩
theorem ld8Dbjn (d : RegNum) (b : RegNum) (j : RegNum) (n : Imm5) (y : BitVec 2) (u : Bool) : Statement (.ld8Dbjn d b j n y u) := fun _ => ⟨encDrnt_length _ _ _ _ _ _ _, bound4 n⟩
theorem ld16Dbj (d : RegNum) (b : RegNum) (j : RegNum) : Statement (.ld16Dbj d b j) := fun _ => ⟨encDrs_length _ _ _ _, boundK (k := 3) rfl⟩
theorem ld16Dbn (d : RegNum) (b : RegNum) (n : Imm5) : Statement (.ld16Dbn d b n) := fun _ => ⟨encDrn_length _ _ _ _ _, bound3 n⟩
theorem ld16Dbjs (d : RegNum) (b : RegNum) (j : RegNum) (rs : RegNum) (y : BitVec 2) (u : Bool) : Statement (.ld16Dbjs d b j rs y u) := fun _ => ⟨encDrst_length _ _ _ _ _ _ _, boundK (k := 4) rfl⟩
theorem ld16Dbjn (d : RegNum) (b : RegNum) (j : RegNum) (n : Imm5) (y : BitVec 2) (u : Bool) : Statement (.ld16Dbjn d b j n y u) := fun _ => ⟨encDrnt_length _ _ _ _ _ _ _, bound4 n⟩
theorem ld24Dbj (d : RegNum) (b : RegNum) (j : RegNum) : Statement (.ld24Dbj d b j) := fun _ => ⟨encDrs_length _ _ _ _, boundK (k := 3) rfl⟩
theorem ld24Dbn (d : RegNum) (b : RegNum) (n : Imm5) : Statement (.ld24Dbn d b n) := fun _ => ⟨encDrn_length _ _ _ _ _, bound3 n⟩
theorem ld24Dbjs (d : RegNum) (b : RegNum) (j : RegNum) (rs : RegNum) (y : BitVec 2) (u : Bool) : Statement (.ld24Dbjs d b j rs y u) := fun _ => ⟨encDrst_length _ _ _ _ _ _ _, boundK (k := 4) rfl⟩
theorem ld24Dbjn (d : RegNum) (b : RegNum) (j : RegNum) (n : Imm5) (y : BitVec 2) (u : Bool) : Statement (.ld24Dbjn d b j n y u) := fun _ => ⟨encDrnt_length _ _ _ _ _ _ _, bound4 n⟩
theorem ld32Dbj (d : RegNum) (b : RegNum) (j : RegNum) : Statement (.ld32Dbj d b j) := fun _ => ⟨encDrs_length _ _ _ _, boundK (k := 3) rfl⟩
theorem ld32Dbn (d : RegNum) (b : RegNum) (n : Imm5) : Statement (.ld32Dbn d b n) := fun _ => ⟨encDrn_length _ _ _ _ _, bound3 n⟩
theorem ld32Dbjs (d : RegNum) (b : RegNum) (j : RegNum) (rs : RegNum) (y : BitVec 2) (u : Bool) : Statement (.ld32Dbjs d b j rs y u) := fun _ => ⟨encDrst_length _ _ _ _ _ _ _, boundK (k := 4) rfl⟩
theorem ld32Dbjn (d : RegNum) (b : RegNum) (j : RegNum) (n : Imm5) (y : BitVec 2) (u : Bool) : Statement (.ld32Dbjn d b j n y u) := fun _ => ⟨encDrnt_length _ _ _ _ _ _ _, bound4 n⟩
theorem fld8Dbj (d : RegNum) (b : RegNum) (j : RegNum) : Statement (.fld8Dbj d b j) := fun _ => ⟨encDrs_length _ _ _ _, boundK (k := 3) rfl⟩
theorem fld8Dbn (d : RegNum) (b : RegNum) (n : Imm5) : Statement (.fld8Dbn d b n) := fun _ => ⟨encDrn_length _ _ _ _ _, bound3 n⟩
theorem fld8Dbjs (d : RegNum) (b : RegNum) (j : RegNum) (rs : RegNum) (y : BitVec 2) (u : Bool) : Statement (.fld8Dbjs d b j rs y u) := fun _ => ⟨encDrst_length _ _ _ _ _ _ _, boundK (k := 4) rfl⟩
theorem fld8Dbjn (d : RegNum) (b : RegNum) (j : RegNum) (n : Imm5) (y : BitVec 2) (u : Bool) : Statement (.fld8Dbjn d b j n y u) := fun _ => ⟨encDrnt_length _ _ _ _ _ _ _, bound4 n⟩
theorem fld16Dbj (d : RegNum) (b : RegNum) (j : RegNum) : Statement (.fld16Dbj d b j) := fun _ => ⟨encDrs_length _ _ _ _, boundK (k := 3) rfl⟩
theorem fld16Dbn (d : RegNum) (b : RegNum) (n : Imm5) : Statement (.fld16Dbn d b n) := fun _ => ⟨encDrn_length _ _ _ _ _, bound3 n⟩
theorem fld16Dbjs (d : RegNum) (b : RegNum) (j : RegNum) (rs : RegNum) (y : BitVec 2) (u : Bool) : Statement (.fld16Dbjs d b j rs y u) := fun _ => ⟨encDrst_length _ _ _ _ _ _ _, boundK (k := 4) rfl⟩
theorem fld16Dbjn (d : RegNum) (b : RegNum) (j : RegNum) (n : Imm5) (y : BitVec 2) (u : Bool) : Statement (.fld16Dbjn d b j n y u) := fun _ => ⟨encDrnt_length _ _ _ _ _ _ _, bound4 n⟩
theorem fld24Dbj (d : RegNum) (b : RegNum) (j : RegNum) : Statement (.fld24Dbj d b j) := fun _ => ⟨encDrs_length _ _ _ _, boundK (k := 3) rfl⟩
theorem fld24Dbn (d : RegNum) (b : RegNum) (n : Imm5) : Statement (.fld24Dbn d b n) := fun _ => ⟨encDrn_length _ _ _ _ _, bound3 n⟩
theorem fld24Dbjs (d : RegNum) (b : RegNum) (j : RegNum) (rs : RegNum) (y : BitVec 2) (u : Bool) : Statement (.fld24Dbjs d b j rs y u) := fun _ => ⟨encDrst_length _ _ _ _ _ _ _, boundK (k := 4) rfl⟩
theorem fld24Dbjn (d : RegNum) (b : RegNum) (j : RegNum) (n : Imm5) (y : BitVec 2) (u : Bool) : Statement (.fld24Dbjn d b j n y u) := fun _ => ⟨encDrnt_length _ _ _ _ _ _ _, bound4 n⟩
theorem fld32Dbj (d : RegNum) (b : RegNum) (j : RegNum) : Statement (.fld32Dbj d b j) := fun _ => ⟨encDrs_length _ _ _ _, boundK (k := 3) rfl⟩
theorem fld32Dbn (d : RegNum) (b : RegNum) (n : Imm5) : Statement (.fld32Dbn d b n) := fun _ => ⟨encDrn_length _ _ _ _ _, bound3 n⟩
theorem fld32Dbjs (d : RegNum) (b : RegNum) (j : RegNum) (rs : RegNum) (y : BitVec 2) (u : Bool) : Statement (.fld32Dbjs d b j rs y u) := fun _ => ⟨encDrst_length _ _ _ _ _ _ _, boundK (k := 4) rfl⟩
theorem fld32Dbjn (d : RegNum) (b : RegNum) (j : RegNum) (n : Imm5) (y : BitVec 2) (u : Bool) : Statement (.fld32Dbjn d b j n y u) := fun _ => ⟨encDrnt_length _ _ _ _ _ _ _, bound4 n⟩
theorem pld8Dbj (d : RegNum) (b : RegNum) (j : RegNum) : Statement (.pld8Dbj d b j) := fun _ => ⟨encDrs_length _ _ _ _, boundK (k := 3) rfl⟩
theorem pld8Dbn (d : RegNum) (b : RegNum) (n : Imm5) : Statement (.pld8Dbn d b n) := fun _ => ⟨encDrn_length _ _ _ _ _, bound3 n⟩
theorem pld8Dbjs (d : RegNum) (b : RegNum) (j : RegNum) (rs : RegNum) (y : BitVec 2) (u : Bool) : Statement (.pld8Dbjs d b j rs y u) := fun _ => ⟨encDrst_length _ _ _ _ _ _ _, boundK (k := 4) rfl⟩
theorem pld8Dbjn (d : RegNum) (b : RegNum) (j : RegNum) (n : Imm5) (y : BitVec 2) (u : Bool) : Statement (.pld8Dbjn d b j n y u) := fun _ => ⟨encDrnt_length _ _ _ _ _ _ _, bound4 n⟩
theorem pld16Dbj (d : RegNum) (b : RegNum) (j : RegNum) : Statement (.pld16Dbj d b j) := fun _ => ⟨encDrs_length _ _ _ _, boundK (k := 3) rfl⟩
theorem pld16Dbn (d : RegNum) (b : RegNum) (n : Imm5) : Statement (.pld16Dbn d b n) := fun _ => ⟨encDrn_length _ _ _ _ _, bound3 n⟩
theorem pld16Dbjs (d : RegNum) (b : RegNum) (j : RegNum) (rs : RegNum) (y : BitVec 2) (u : Bool) : Statement (.pld16Dbjs d b j rs y u) := fun _ => ⟨encDrst_length _ _ _ _ _ _ _, boundK (k := 4) rfl⟩
theorem pld16Dbjn (d : RegNum) (b : RegNum) (j : RegNum) (n : Imm5) (y : BitVec 2) (u : Bool) : Statement (.pld16Dbjn d b j n y u) := fun _ => ⟨encDrnt_length _ _ _ _ _ _ _, bound4 n⟩
theorem pld24Dbj (d : RegNum) (b : RegNum) (j : RegNum) : Statement (.pld24Dbj d b j) := fun _ => ⟨encDrs_length _ _ _ _, boundK (k := 3) rfl⟩
theorem pld24Dbn (d : RegNum) (b : RegNum) (n : Imm5) : Statement (.pld24Dbn d b n) := fun _ => ⟨encDrn_length _ _ _ _ _, bound3 n⟩
theorem pld24Dbjs (d : RegNum) (b : RegNum) (j : RegNum) (rs : RegNum) (y : BitVec 2) (u : Bool) : Statement (.pld24Dbjs d b j rs y u) := fun _ => ⟨encDrst_length _ _ _ _ _ _ _, boundK (k := 4) rfl⟩
theorem pld24Dbjn (d : RegNum) (b : RegNum) (j : RegNum) (n : Imm5) (y : BitVec 2) (u : Bool) : Statement (.pld24Dbjn d b j n y u) := fun _ => ⟨encDrnt_length _ _ _ _ _ _ _, bound4 n⟩
theorem pld32Dbj (d : RegNum) (b : RegNum) (j : RegNum) : Statement (.pld32Dbj d b j) := fun _ => ⟨encDrs_length _ _ _ _, boundK (k := 3) rfl⟩
theorem pld32Dbn (d : RegNum) (b : RegNum) (n : Imm5) : Statement (.pld32Dbn d b n) := fun _ => ⟨encDrn_length _ _ _ _ _, bound3 n⟩
theorem pld32Dbjs (d : RegNum) (b : RegNum) (j : RegNum) (rs : RegNum) (y : BitVec 2) (u : Bool) : Statement (.pld32Dbjs d b j rs y u) := fun _ => ⟨encDrst_length _ _ _ _ _ _ _, boundK (k := 4) rfl⟩
theorem pld32Dbjn (d : RegNum) (b : RegNum) (j : RegNum) (n : Imm5) (y : BitVec 2) (u : Bool) : Statement (.pld32Dbjn d b j n y u) := fun _ => ⟨encDrnt_length _ _ _ _ _ _ _, bound4 n⟩
theorem lea8Dbjs (d : RegNum) (b : RegNum) (j : RegNum) (rs : RegNum) (y : BitVec 2) (u : Bool) : Statement (.lea8Dbjs d b j rs y u) := fun _ => ⟨encDrst_length _ _ _ _ _ _ _, boundK (k := 4) rfl⟩
theorem lea8Dbjn (d : RegNum) (b : RegNum) (j : RegNum) (n : Imm5) (y : BitVec 2) (u : Bool) : Statement (.lea8Dbjn d b j n y u) := fun _ => ⟨encDrnt_length _ _ _ _ _ _ _, bound4 n⟩
theorem lea16Dbjs (d : RegNum) (b : RegNum) (j : RegNum) (rs : RegNum) (y : BitVec 2) (u : Bool) : Statement (.lea16Dbjs d b j rs y u) := fun _ => ⟨encDrst_length _ _ _ _ _ _ _, boundK (k := 4) rfl⟩
theorem lea16Dbjn (d : RegNum) (b : RegNum) (j : RegNum) (n : Imm5) (y : BitVec 2) (u : Bool) : Statement (.lea16Dbjn d b j n y u) := fun _ => ⟨encDrnt_length _ _ _ _ _ _ _, bound4 n⟩
theorem lea24Dbjs (d : RegNum) (b : RegNum) (j : RegNum) (rs : RegNum) (y : BitVec 2) (u : Bool) : Statement (.lea24Dbjs d b j rs y u) := fun _ => ⟨encDrst_length _ _ _ _ _ _ _, boundK (k := 4) rfl⟩
theorem lea24Dbjn (d : RegNum) (b : RegNum) (j : RegNum) (n : Imm5) (y : BitVec 2) (u : Bool) : Statement (.lea24Dbjn d b j n y u) := fun _ => ⟨encDrnt_length _ _ _ _ _ _ _, bound4 n⟩
theorem lea32Dbjs (d : RegNum) (b : RegNum) (j : RegNum) (rs : RegNum) (y : BitVec 2) (u : Bool) : Statement (.lea32Dbjs d b j rs y u) := fun _ => ⟨encDrst_length _ _ _ _ _ _ _, boundK (k := 4) rfl⟩
theorem lea32Dbjn (d : RegNum) (b : RegNum) (j : RegNum) (n : Imm5) (y : BitVec 2) (u : Bool) : Statement (.lea32Dbjn d b j n y u) := fun _ => ⟨encDrnt_length _ _ _ _ _ _ _, bound4 n⟩
theorem callDbj (d : RegNum) (b : RegNum) (j : RegNum) : Statement (.callDbj d b j) := fun _ => ⟨encDrs_length _ _ _ _, boundK (k := 3) rfl⟩
theorem callDbn (d : RegNum) (b : RegNum) (n : Imm5) : Statement (.callDbn d b n) := fun _ => ⟨encDrn_length _ _ _ _ _, bound3 n⟩
theorem callDbjs (d : RegNum) (b : RegNum) (j : RegNum) (rs : RegNum) (y : BitVec 2) (u : Bool) : Statement (.callDbjs d b j rs y u) := fun _ => ⟨encDrst_length _ _ _ _ _ _ _, boundK (k := 4) rfl⟩
theorem callDbjn (d : RegNum) (b : RegNum) (j : RegNum) (n : Imm5) (y : BitVec 2) (u : Bool) : Statement (.callDbjn d b j n y u) := fun _ => ⟨encDrnt_length _ _ _ _ _ _ _, bound4 n⟩
theorem add (d : RegNum) (r : RegNum) (rs : RegNum) : Statement (.add d r rs) := fun _ => ⟨encDrs_length _ _ _ _, boundK (k := 3) rfl⟩
theorem addi (d : RegNum) (r : RegNum) (n : Imm5) : Statement (.addi d r n) := fun _ => ⟨encDrn_length _ _ _ _ _, bound3 n⟩
theorem sub (d : RegNum) (r : RegNum) (rs : RegNum) : Statement (.sub d r rs) := fun _ => ⟨encDrs_length _ _ _ _, boundK (k := 3) rfl⟩
theorem subi (d : RegNum) (r : RegNum) (n : Imm5) : Statement (.subi d r n) := fun _ => ⟨encDrn_length _ _ _ _ _, bound3 n⟩
theorem mul (d : RegNum) (r : RegNum) (rs : RegNum) : Statement (.mul d r rs) := fun _ => ⟨encDrs_length _ _ _ _, boundK (k := 3) rfl⟩
theorem muli (d : RegNum) (r : RegNum) (n : Imm5) : Statement (.muli d r n) := fun _ => ⟨encDrn_length _ _ _ _ _, bound3 n⟩
theorem div (d : RegNum) (r : RegNum) (rs : RegNum) : Statement (.div d r rs) := fun _ => ⟨encDrs_length _ _ _ _, boundK (k := 3) rfl⟩
theorem divi (d : RegNum) (r : RegNum) (n : Imm5) : Statement (.divi d r n) := fun _ => ⟨encDrn_length _ _ _ _ _, bound3 n⟩
theorem addnu (d : RegNum) (r : RegNum) (rs : RegNum) : Statement (.addnu d r rs) := fun _ => ⟨encDrs_length _ _ _ _, boundK (k := 3) rfl⟩
theorem addnui (d : RegNum) (r : RegNum) (n : Imm5) : Statement (.addnui d r n) := fun _ => ⟨encDrn_length _ _ _ _ _, bound3 n⟩
theorem subnu (d : RegNum) (r : RegNum) (rs : RegNum) : Statement (.subnu d r rs) := fun _ => ⟨encDrs_length _ _ _ _, boundK (k := 3) rfl⟩
theorem subnui (d : RegNum) (r : RegNum) (n : Imm5) : Statement (.subnui d r n) := fun _ => ⟨encDrn_length _ _ _ _ _, bound3 n⟩
theorem mulnu (d : RegNum) (r : RegNum) (rs : RegNum) : Statement (.mulnu d r rs) := fun _ => ⟨encDrs_length _ _ _ _, boundK (k := 3) rfl⟩
theorem mulnui (d : RegNum) (r : RegNum) (n : Imm5) : Statement (.mulnui d r n) := fun _ => ⟨encDrn_length _ _ _ _ _, bound3 n⟩
theorem divnu (d : RegNum) (r : RegNum) (rs : RegNum) : Statement (.divnu d r rs) := fun _ => ⟨encDrs_length _ _ _ _, boundK (k := 3) rfl⟩
theorem divnui (d : RegNum) (r : RegNum) (n : Imm5) : Statement (.divnui d r n) := fun _ => ⟨encDrn_length _ _ _ _ _, bound3 n⟩
theorem and (d : RegNum) (r : RegNum) (rs : RegNum) : Statement (.and d r rs) := fun _ => ⟨encDrs_length _ _ _ _, boundK (k := 3) rfl⟩
theorem andi (d : RegNum) (r : RegNum) (n : Imm5) : Statement (.andi d r n) := fun _ => ⟨encDrn_length _ _ _ _ _, bound3 n⟩
theorem or (d : RegNum) (r : RegNum) (rs : RegNum) : Statement (.or d r rs) := fun _ => ⟨encDrs_length _ _ _ _, boundK (k := 3) rfl⟩
theorem ori (d : RegNum) (r : RegNum) (n : Imm5) : Statement (.ori d r n) := fun _ => ⟨encDrn_length _ _ _ _ _, bound3 n⟩
theorem xor (d : RegNum) (r : RegNum) (rs : RegNum) : Statement (.xor d r rs) := fun _ => ⟨encDrs_length _ _ _ _, boundK (k := 3) rfl⟩
theorem xori (d : RegNum) (r : RegNum) (n : Imm5) : Statement (.xori d r n) := fun _ => ⟨encDrn_length _ _ _ _ _, bound3 n⟩
theorem cmp (d : RegNum) (r : RegNum) (rs : RegNum) : Statement (.cmp d r rs) := fun _ => ⟨encDrs_length _ _ _ _, boundK (k := 3) rfl⟩
theorem cmpi (d : RegNum) (r : RegNum) (n : Imm5) : Statement (.cmpi d r n) := fun _ => ⟨encDrn_length _ _ _ _ _, bound3 n⟩
theorem extrct (d : RegNum) (r : RegNum) (rs : RegNum) : Statement (.extrct d r rs) := fun _ => ⟨encDrs_length _ _ _ _, boundK (k := 3) rfl⟩
theorem extrcti (d : RegNum) (r : RegNum) (n : Imm5) : Statement (.extrcti d r n) := fun _ => ⟨encDrn_length _ _ _ _ _, bound3 n⟩
theorem lsr (d : RegNum) (r : RegNum) (rs : RegNum) : Statement (.lsr d r rs) := fun _ => ⟨encDrs_length _ _ _ _, boundK (k := 3) rfl⟩
theorem lsri (d : RegNum) (r : RegNum) (n : Imm5) : Statement (.lsri d r n) := fun _ => ⟨encDrn_length _ _ _ _ _, bound3 n⟩
theorem asr (d : RegNum) (r : RegNum) (rs : RegNum) : Statement (.asr d r rs) := fun _ => ⟨encDrs_length _ _ _ _, boundK (k := 3) rfl⟩
theorem asri (d : RegNum) (r : RegNum) (n : Imm5) : Statement (.asri d r n) := fun _ => ⟨encDrn_length _ _ _ _ _, bound3 n⟩
theorem ror (d : RegNum) (r : RegNum) (rs : RegNum) : Statement (.ror d r rs) := fun _ => ⟨encDrs_length _ _ _ _, boundK (k := 3) rfl⟩
theorem rori (d : RegNum) (r : RegNum) (n : Imm5) : Statement (.rori d r n) := fun _ => ⟨encDrn_length _ _ _ _ _, bound3 n⟩
theorem vect (d : RegNum) (n : BitVec 11) : Statement (.vect d n) := fun _ => ⟨leBytes_length _ _, boundK (k := 3) rfl⟩
theorem loop (d : RegNum) (r : RegNum) (rs : RegNum) : Statement (.loop d r rs) := fun _ => ⟨encDrs_length _ _ _ _, boundK (k := 3) rfl⟩
theorem loopi (d : RegNum) (r : RegNum) (f : BitVec 5) : Statement (.loopi d r f) := fun _ => ⟨leBytes_length _ _, boundK (k := 3) rfl⟩
theorem max (d : RegNum) (r : RegNum) (rs : RegNum) : Statement (.max d r rs) := fun _ => ⟨encDrs_length _ _ _ _, boundK (k := 3) rfl⟩
theorem maxi (d : RegNum) (r : RegNum) (n : Imm5) : Statement (.maxi d r n) := fun _ => ⟨encDrn_length _ _ _ _ _, bound3 n⟩
theorem min (d : RegNum) (r : RegNum) (rs : RegNum) : Statement (.min d r rs) := fun _ => ⟨encDrs_length _ _ _ _, boundK (k := 3) rfl⟩
theorem mini (d : RegNum) (r : RegNum) (n : Imm5) : Statement (.mini d r n) := fun _ => ⟨encDrn_length _ _ _ _ _, bound3 n⟩
theorem add3 (d : RegNum) (r : RegNum) (rs : RegNum) (rt : RegNum) (zz : BitVec 2) (u : Bool) : Statement (.add3 d r rs rt zz u) := fun _ => ⟨encDrst_length _ _ _ _ _ _ _, boundK (k := 4) rfl⟩
theorem add3i (d : RegNum) (r : RegNum) (n : Imm5) (rt : RegNum) (zz : BitVec 2) (u : Bool) : Statement (.add3i d r n rt zz u) := fun _ => ⟨encDrnt_length _ _ _ _ _ _ _, bound4 n⟩
theorem sub3 (d : RegNum) (r : RegNum) (rs : RegNum) (rt : RegNum) (zz : BitVec 2) (u : Bool) : Statement (.sub3 d r rs rt zz u) := fun _ => ⟨encDrst_length _ _ _ _ _ _ _, boundK (k := 4) rfl⟩
theorem sub3i (d : RegNum) (r : RegNum) (n : Imm5) (rt : RegNum) (zz : BitVec 2) (u : Bool) : Statement (.sub3i d r n rt zz u) := fun _ => ⟨encDrnt_length _ _ _ _ _ _ _, bound4 n⟩
theorem mac (d : RegNum) (r : RegNum) (rs : RegNum) (rt : RegNum) (zz : BitVec 2) (u : Bool) : Statement (.mac d r rs rt zz u) := fun _ => ⟨encDrst_length _ _ _ _ _ _ _, boundK (k := 4) rfl⟩
theorem maci (d : RegNum) (r : RegNum) (n : Imm5) (rt : RegNum) (zz : BitVec 2) (u : Bool) : Statement (.maci d r n rt zz u) := fun _ => ⟨encDrnt_length _ _ _ _ _ _ _, bound4 n⟩
theorem ddiv (d : RegNum) (r : RegNum) (rs : RegNum) (rt : RegNum) (zz : BitVec 2) (u : Bool) : Statement (.ddiv d r rs rt zz u) := fun _ => ⟨encDrst_length _ _ _ _ _ _ _, boundK (k := 4) rfl⟩
theorem ddivi (d : RegNum) (r : RegNum) (n : Imm5) (rt : RegNum) (zz : BitVec 2) (u : Bool) : Statement (.ddivi d r n rt zz u) := fun _ => ⟨encDrnt_length _ _ _ _ _ _ _, bound4 n⟩
theorem and3 (d : RegNum) (r : RegNum) (rs : RegNum) (rt : RegNum) (zz : BitVec 2) (u : Bool) : Statement (.and3 d r rs rt zz u) := fun _ => ⟨encDrst_length _ _ _ _ _ _ _, boundK (k := 4) rfl⟩
theorem and3i (d : RegNum) (r : RegNum) (n : Imm5) (rt : RegNum) (zz : BitVec 2) (u : Bool) : Statement (.and3i d r n rt zz u) := fun _ => ⟨encDrnt_length _ _ _ _ _ _ _, bound4 n⟩
theorem or3 (d : RegNum) (r : RegNum) (rs : RegNum) (rt : RegNum) (zz : BitVec 2) (u : Bool) : Statement (.or3 d r rs rt zz u) := fun _ => ⟨encDrst_length _ _ _ _ _ _ _, boundK (k := 4) rfl⟩
theorem or3i (d : RegNum) (r : RegNum) (n : Imm5) (rt : RegNum) (zz : BitVec 2) (u : Bool) : Statement (.or3i d r n rt zz u) := fun _ => ⟨encDrnt_length _ _ _ _ _ _ _, bound4 n⟩
theorem xor3 (d : RegNum) (r : RegNum) (rs : RegNum) (rt : RegNum) (zz : BitVec 2) (u : Bool) : Statement (.xor3 d r rs rt zz u) := fun _ => ⟨encDrst_length _ _ _ _ _ _ _, boundK (k := 4) rfl⟩
theorem xor3i (d : RegNum) (r : RegNum) (n : Imm5) (rt : RegNum) (zz : BitVec 2) (u : Bool) : Statement (.xor3i d r n rt zz u) := fun _ => ⟨encDrnt_length _ _ _ _ _ _ _, bound4 n⟩
theorem insrt (d : RegNum) (r : RegNum) (rs : RegNum) (rt : RegNum) (zz : BitVec 2) (u : Bool) : Statement (.insrt d r rs rt zz u) := fun _ => ⟨encDrst_length _ _ _ _ _ _ _, boundK (k := 4) rfl⟩
theorem insrti (d : RegNum) (r : RegNum) (n : Imm5) (rt : RegNum) (zz : BitVec 2) (u : Bool) : Statement (.insrti d r n rt zz u) := fun _ => ⟨encDrnt_length _ _ _ _ _ _ _, bound4 n⟩
theorem extrctD (d : RegNum) (r : RegNum) (rs : RegNum) (rt : RegNum) (zz : BitVec 2) (u : Bool) : Statement (.extrctD d r rs rt zz u) := fun _ => ⟨encDrst_length _ _ _ _ _ _ _, boundK (k := 4) rfl⟩
theorem extrctiD (d : RegNum) (r : RegNum) (n : Imm5) (rt : RegNum) (zz : BitVec 2) (u : Bool) : Statement (.extrctiD d r n rt zz u) := fun _ => ⟨encDrnt_length _ _ _ _ _ _ _, bound4 n⟩
theorem shr (d : RegNum) (r : RegNum) (rs : RegNum) (rt : RegNum) (zz : BitVec 2) (u : Bool) : Statement (.shr d r rs rt zz u) := fun _ => ⟨encDrst_length _ _ _ _ _ _ _, boundK (k := 4) rfl⟩
theorem shri (d : RegNum) (r : RegNum) (n : Imm5) (rt : RegNum) (zz : BitVec 2) (u : Bool) : Statement (.shri d r n rt zz u) := fun _ => ⟨encDrnt_length _ _ _ _ _ _ _, bound4 n⟩
theorem asrD (d : RegNum) (r : RegNum) (rs : RegNum) (rt : RegNum) (zz : BitVec 2) (u : Bool) : Statement (.asrD d r rs rt zz u) := fun _ => ⟨encDrst_length _ _ _ _ _ _ _, boundK (k := 4) rfl⟩
theorem asriD (d : RegNum) (r : RegNum) (n : Imm5) (rt : RegNum) (zz : BitVec 2) (u : Bool) : Statement (.asriD d r n rt zz u) := fun _ => ⟨encDrnt_length _ _ _ _ _ _ _, bound4 n⟩
theorem rorD (d : RegNum) (r : RegNum) (rs : RegNum) (rt : RegNum) (zz : BitVec 2) (u : Bool) : Statement (.rorD d r rs rt zz u) := fun _ => ⟨encDrst_length _ _ _ _ _ _ _, boundK (k := 4) rfl⟩
theorem roriD (d : RegNum) (r : RegNum) (n : Imm5) (rt : RegNum) (zz : BitVec 2) (u : Bool) : Statement (.roriD d r n rt zz u) := fun _ => ⟨encDrnt_length _ _ _ _ _ _ _, bound4 n⟩
theorem max3 (d : RegNum) (r : RegNum) (rs : RegNum) (rt : RegNum) (zz : BitVec 2) (u : Bool) : Statement (.max3 d r rs rt zz u) := fun _ => ⟨encDrst_length _ _ _ _ _ _ _, boundK (k := 4) rfl⟩
theorem max3i (d : RegNum) (r : RegNum) (n : Imm5) (rt : RegNum) (zz : BitVec 2) (u : Bool) : Statement (.max3i d r n rt zz u) := fun _ => ⟨encDrnt_length _ _ _ _ _ _ _, bound4 n⟩
theorem min3 (d : RegNum) (r : RegNum) (rs : RegNum) (rt : RegNum) (zz : BitVec 2) (u : Bool) : Statement (.min3 d r rs rt zz u) := fun _ => ⟨encDrst_length _ _ _ _ _ _ _, boundK (k := 4) rfl⟩
theorem min3i (d : RegNum) (r : RegNum) (n : Imm5) (rt : RegNum) (zz : BitVec 2) (u : Bool) : Statement (.min3i d r n rt zz u) := fun _ => ⟨encDrnt_length _ _ _ _ _ _ _, bound4 n⟩
theorem median3 (d : RegNum) (r : RegNum) (rs : RegNum) (rt : RegNum) (zz : BitVec 2) (u : Bool) : Statement (.median3 d r rs rt zz u) := fun _ => ⟨encDrst_length _ _ _ _ _ _ _, boundK (k := 4) rfl⟩
theorem median3I (d : RegNum) (r : RegNum) (n : Imm5) (rt : RegNum) (zz : BitVec 2) (u : Bool) : Statement (.median3I d r n rt zz u) := fun _ => ⟨encDrnt_length _ _ _ _ _ _ _, bound4 n⟩
theorem intp (f : BitVec 24) : Statement (.intp f) := fun _ => ⟨leBytes_length _ _, boundK (k := 4) rfl⟩
theorem lut (f : BitVec 24) : Statement (.lut f) := fun _ => ⟨leBytes_length _ _, boundK (k := 4) rfl⟩
theorem cmov (f : BitVec 24) : Statement (.cmov f) := fun _ => ⟨leBytes_length _ _, boundK (k := 4) rfl⟩
theorem container32 (f : BitVec 24) : Statement (.container32 f) := fun _ => ⟨leBytes_length _ _, boundK (k := 4) rfl⟩
theorem mmov (f : BitVec 24) : Statement (.mmov f) := fun _ => ⟨leBytes_length _ _, boundK (k := 4) rfl⟩
theorem pcnd (f : BitVec 24) : Statement (.pcnd f) := fun _ => ⟨leBytes_length _ _, boundK (k := 4) rfl⟩
theorem pcb1 (f : BitVec 24) : Statement (.pcb1 f) := fun _ => ⟨leBytes_length _ _, boundK (k := 4) rfl⟩
theorem stm (f : BitVec 24) : Statement (.stm f) := fun _ => ⟨leBytes_length _ _, boundK (k := 4) rfl⟩
theorem ldm (f : BitVec 24) : Statement (.ldm f) := fun _ => ⟨leBytes_length _ _, boundK (k := 4) rfl⟩
theorem tt (f : BitVec 24) : Statement (.tt f) := fun _ => ⟨leBytes_length _ _, boundK (k := 4) rfl⟩
theorem inp (d : RegNum) (rs : RegNum) (z : Bool) : Statement (.inp d rs z) := fun h => ⟨encDs_length _ _ _ _ h, boundK (k := 3) rfl⟩
theorem out (d : RegNum) (rs : RegNum) (z : Bool) : Statement (.out d rs z) := fun h => ⟨encDs_length _ _ _ _ h, boundK (k := 3) rfl⟩
theorem mov (d : RegNum) (rs : RegNum) (z : Bool) : Statement (.mov d rs z) := fun h => ⟨encDs_length _ _ _ _ h, boundK (k := 3) rfl⟩
theorem not (d : RegNum) (rs : RegNum) (z : Bool) : Statement (.not d rs z) := fun h => ⟨encDs_length _ _ _ _ h, boundK (k := 3) rfl⟩
theorem neg (d : RegNum) (rs : RegNum) (z : Bool) : Statement (.neg d rs z) := fun h => ⟨encDs_length _ _ _ _ h, boundK (k := 3) rfl⟩
theorem inc (d : RegNum) (rs : RegNum) (z : Bool) : Statement (.inc d rs z) := fun h => ⟨encDs_length _ _ _ _ h, boundK (k := 3) rfl⟩
theorem dec (d : RegNum) (rs : RegNum) (z : Bool) : Statement (.dec d rs z) := fun h => ⟨encDs_length _ _ _ _ h, boundK (k := 3) rfl⟩
theorem abs (d : RegNum) (rs : RegNum) (z : Bool) : Statement (.abs d rs z) := fun h => ⟨encDs_length _ _ _ _ h, boundK (k := 3) rfl⟩
theorem nabs (d : RegNum) (rs : RegNum) (z : Bool) : Statement (.nabs d rs z) := fun h => ⟨encDs_length _ _ _ _ h, boundK (k := 3) rfl⟩
theorem ldzcnt (d : RegNum) (rs : RegNum) (z : Bool) : Statement (.ldzcnt d rs z) := fun h => ⟨encDs_length _ _ _ _ h, boundK (k := 3) rfl⟩
theorem ld1cnt (d : RegNum) (rs : RegNum) (z : Bool) : Statement (.ld1cnt d rs z) := fun h => ⟨encDs_length _ _ _ _ h, boundK (k := 3) rfl⟩
theorem trzcnt (d : RegNum) (rs : RegNum) (z : Bool) : Statement (.trzcnt d rs z) := fun h => ⟨encDs_length _ _ _ _ h, boundK (k := 3) rfl⟩
theorem tr1cnt (d : RegNum) (rs : RegNum) (z : Bool) : Statement (.tr1cnt d rs z) := fun h => ⟨encDs_length _ _ _ _ h, boundK (k := 3) rfl⟩
theorem popcnt (d : RegNum) (rs : RegNum) (z : Bool) : Statement (.popcnt d rs z) := fun h => ⟨encDs_length _ _ _ _ h, boundK (k := 3) rfl⟩
theorem sqrt (d : RegNum) (rs : RegNum) (z : Bool) : Statement (.sqrt d rs z) := fun h => ⟨encDs_length _ _ _ _ h, boundK (k := 3) rfl⟩
theorem sinpi (d : RegNum) (rs : RegNum) (z : Bool) : Statement (.sinpi d rs z) := fun h => ⟨encDs_length _ _ _ _ h, boundK (k := 3) rfl⟩
theorem cospi (d : RegNum) (rs : RegNum) (z : Bool) : Statement (.cospi d rs z) := fun h => ⟨encDs_length _ _ _ _ h, boundK (k := 3) rfl⟩
theorem tanpi (d : RegNum) (rs : RegNum) (z : Bool) : Statement (.tanpi d rs z) := fun h => ⟨encDs_length _ _ _ _ h, boundK (k := 3) rfl⟩
theorem asinpi (d : RegNum) (rs : RegNum) (z : Bool) : Statement (.asinpi d rs z) := fun h => ⟨encDs_length _ _ _ _ h, boundK (k := 3) rfl⟩
theorem acospi (d : RegNum) (rs : RegNum) (z : Bool) : Statement (.acospi d rs z) := fun h => ⟨encDs_length _ _ _ _ h, boundK (k := 3) rfl⟩
theorem atanpi (d : RegNum) (rs : RegNum) (z : Bool) : Statement (.atanpi d rs z) := fun h => ⟨encDs_length _ _ _ _ h, boundK (k := 3) rfl⟩
theorem int (d : RegNum) (rs : RegNum) (z : Bool) : Statement (.int d rs z) := fun h => ⟨encDs_length _ _ _ _ h, boundK (k := 3) rfl⟩
theorem flt (d : RegNum) (rs : RegNum) (z : Bool) : Statement (.flt d rs z) := fun h => ⟨encDs_length _ _ _ _ h, boundK (k := 3) rfl⟩
theorem expon (d : RegNum) (rs : RegNum) (z : Bool) : Statement (.expon d rs z) := fun h => ⟨encDs_length _ _ _ _ h, boundK (k := 3) rfl⟩
theorem fract (d : RegNum) (rs : RegNum) (z : Bool) : Statement (.fract d rs z) := fun h => ⟨encDs_length _ _ _ _ h, boundK (k := 3) rfl⟩
theorem fsqrt (d : RegNum) (rs : RegNum) (z : Bool) : Statement (.fsqrt d rs z) := fun h => ⟨encDs_length _ _ _ _ h, boundK (k := 3) rfl⟩
theorem frsqrt (d : RegNum) (rs : RegNum) (z : Bool) : Statement (.frsqrt d rs z) := fun h => ⟨encDs_length _ _ _ _ h, boundK (k := 3) rfl⟩
theorem frcp (d : RegNum) (rs : RegNum) (z : Bool) : Statement (.frcp d rs z) := fun h => ⟨encDs_length _ _ _ _ h, boundK (k := 3) rfl⟩
theorem ln2p1 (d : RegNum) (rs : RegNum) (z : Bool) : Statement (.ln2p1 d rs z) := fun h => ⟨encDs_length _ _ _ _ h, boundK (k := 3) rfl⟩
theorem ln2 (d : RegNum) (rs : RegNum) (z : Bool) : Statement (.ln2 d rs z) := fun h => ⟨encDs_length _ _ _ _ h, boundK (k := 3) rfl⟩
theorem exp2m1 (d : RegNum) (rs : RegNum) (z : Bool) : Statement (.exp2m1 d rs z) := fun h => ⟨encDs_length _ _ _ _ h, boundK (k := 3) rfl⟩
theorem exp2 (d : RegNum) (rs : RegNum) (z : Bool) : Statement (.exp2 d rs z) := fun h => ⟨encDs_length _ _ _ _ h, boundK (k := 3) rfl⟩
theorem rnd (d : RegNum) (rs : RegNum) (z : Bool) : Statement (.rnd d rs z) := fun h => ⟨encDs_length _ _ _ _ h, boundK (k := 3) rfl⟩
theorem rndtev (d : RegNum) (rs : RegNum) (z : Bool) : Statement (.rndtev d rs z) := fun h => ⟨encDs_length _ _ _ _ h, boundK (k := 3) rfl⟩
theorem rndtod (d : RegNum) (rs : RegNum) (z : Bool) : Statement (.rndtod d rs z) := fun h => ⟨encDs_length _ _ _ _ h, boundK (k := 3) rfl⟩
theorem rndtz (d : RegNum) (rs : RegNum) (z : Bool) : Statement (.rndtz d rs z) := fun h => ⟨encDs_length _ _ _ _ h, boundK (k := 3) rfl⟩
theorem rndfz (d : RegNum) (rs : RegNum) (z : Bool) : Statement (.rndfz d rs z) := fun h => ⟨encDs_length _ _ _ _ h, boundK (k := 3) rfl⟩
theorem ceil (d : RegNum) (rs : RegNum) (z : Bool) : Statement (.ceil d rs z) := fun h => ⟨encDs_length _ _ _ _ h, boundK (k := 3) rfl⟩
theorem floor (d : RegNum) (rs : RegNum) (z : Bool) : Statement (.floor d rs z) := fun h => ⟨encDs_length _ _ _ _ h, boundK (k := 3) rfl⟩
theorem trap : Statement .trap := fun _ => ⟨leBytes_length _ _, boundK (k := 1) rfl⟩
theorem brk : Statement .brk := fun _ => ⟨leBytes_length _ _, boundK (k := 1) rfl⟩
theorem nxth : Statement .nxth := fun _ => ⟨leBytes_length _ _, boundK (k := 1) rfl⟩
theorem nxtw : Statement .nxtw := fun _ => ⟨leBytes_length _ _, boundK (k := 1) rfl⟩
theorem cvt : Statement .cvt := nofun
theorem lnp1 : Statement .lnp1 := nofun
theorem ln : Statement .ln := nofun
theorem logp1 : Statement .logp1 := nofun
theorem log : Statement .log := nofun
theorem expm1 : Statement .expm1 := nofun
theorem exp : Statement .exp := nofun
theorem exp10m1 : Statement .exp10m1 := nofun
theorem exp10 : Statement .exp10 := nofun
theorem sin : Statement .sin := nofun
theorem cos : Statement .cos := nofun
theorem tan : Statement .tan := nofun
theorem asin : Statement .asin := nofun
theorem acos : Statement .acos := nofun
theorem atan : Statement .atan := nofun
theorem movi : Statement .movi := nofun
theorem merg : Statement .merg := nofun
theorem eadd : Statement .eadd := nofun
theorem mv2 : Statement .mv2 := nofun
theorem shl : Statement .shl := nofun

end Laws.EncodedLength

end Sys2Proof
end

