-- ==== Sys2Proof/Tests/Slice0.lean ====
section
/-! SUPPORT. Tests. The expected values come from the spec: the words of the decode tests are put together from the
`encoding` strings of spec/opcode_table.json with the register fields d = 21, r = b = 10, s = 6, j = t = 25, the small
fields zz = yy = 2 and u = 1 and short immediates 5 and 3; the steps are vectors of 95_test_vectors.md, named by their
number; each `witness_…` shows a state and operands that meet the hypotheses of the obligation it names. -/

namespace Sys2Proof.Tests

open Sys2Proof Sys2Proof.Machine

/-! ## Helpers -/

/-- Every list of bytes decodes to the instruction beside it. -/
def decodes (l : List (List Byte × Instr)) : Bool := l.all fun p => decode p.1 == .ok p.2

/-- The state after reset with registers set. -/
def withRegs (l : List (RegNum × Word × TyCode)) : State :=
  l.foldl (fun s p => s.setReg p.1 { val := p.2.1, ty := p.2.2 }) State.reset

/-- The state after reset with registers set, bytes of code at the pc and bytes of data at 0x8000. -/
def machine (code data : List Byte) (regs : List (RegNum × Word × TyCode)) : State :=
  { withRegs regs with
    mem := (State.reset.mem.setBytes 0x1000 code).setBytes 0x8000 data }

/-- The outcome is a next state with this pc and these registers. -/
def gives (o : Out) (pc : Word) (regs : List (RegNum × Word × TyCode)) : Bool :=
  match o with
  | .next t => t.pc == pc && regs.all fun p => t.reg p.1 == { val := p.2.1, ty := p.2.2 }
  | _ => false

/-- The outcome is a next state in which R28 holds no value. -/
def loses (o : Out) : Bool :=
  match o with
  | .next t => t.residueLost
  | _ => false

/-- The outcome is this fault or refusal. -/
def stops (o : Out) (e : Stop) : Bool :=
  match o with
  | .next _ => false
  | .fault r => e == .fault r
  | .refused r => e == .refused r

/-- The outcome is a next state in which these bytes stand from an address on. -/
def leaves (o : Out) (a : Nat) (bs : List Byte) : Bool :=
  match o with
  | .next t => (List.range' a bs.length).map t.mem.byte == bs
  | _ => false

/-- The state after reset with registers set, the pc elsewhere and bytes of code there, in text. -/
def textHere (pc : Word) (code : List Byte) (regs : List (RegNum × Word × TyCode)) : State :=
  { withRegs regs with
    pc := pc
    mem := ({ map := [{ base := pc.toNat, size := code.length, kind := .text }], cells := [] } : Memory).setBytes pc code }

/-! ## Decoding: one word for every instruction that has an encoding, from the table's encoding strings -/

theorem test_decode_bit_branches :
  decodes [
    ([0x06, 0xB5, 0x2A], .bbs 21 10 (.short 5)), ([0x06, 0x95, 0x2A], .bbc 21 10 (.short 5))] = true := by decide +kernel

theorem test_decode_branches24 :
  decodes [
    ([0x07, 0x15, 0x85], .brz24 21 0x85), ([0x07, 0x35, 0x85], .brgz24 21 0x85),
    ([0x07, 0x55, 0x85], .brgez24 21 0x85), ([0x07, 0x75, 0x85], .brev24 21 0x85),
    ([0x07, 0x95, 0x85], .brnz24 21 0x85), ([0x07, 0xB5, 0x85], .brlez24 21 0x85),
    ([0x07, 0xD5, 0x85], .brlz24 21 0x85), ([0x07, 0xF5, 0x85], .brod24 21 0x85)] = true := by decide +kernel

theorem test_decode_branches32 :
  decodes [
    ([0x47, 0x15, 0x05, 0x81], .brz32 21 0x8105), ([0x47, 0x35, 0x05, 0x81], .brgz32 21 0x8105),
    ([0x47, 0x55, 0x05, 0x81], .brgez32 21 0x8105), ([0x47, 0x75, 0x05, 0x81], .brev32 21 0x8105),
    ([0x47, 0x95, 0x05, 0x81], .brnz32 21 0x8105), ([0x47, 0xB5, 0x05, 0x81], .brlez32 21 0x8105),
    ([0x47, 0xD5, 0x05, 0x81], .brlz32 21 0x8105), ([0x47, 0xF5, 0x05, 0x81], .brod32 21 0x8105)] = true := by decide +kernel

theorem test_decode_ldi :
  decodes [
    ([0x08, 0x55, 0x85], .ldi8 21 .s 0x85), ([0x48, 0x55, 0x05, 0x81], .ldi16 21 .s 0x8105),
    ([0x88, 0x55, 0x05, 0x23, 0x81], .ldi24 21 .s 0x812305), ([0xC8, 0x55, 0x05, 0x45, 0x23, 0x81], .ldi32 21 .s 0x81234505)] = true := by decide +kernel

theorem test_decode_enter_exit :
  decodes [
    ([0x0A, 0xCD, 0xAB], .enter 0xABCD), ([0x0B, 0xCD, 0xAB], .exit 0xABCD)] = true := by decide +kernel

theorem test_decode_base_index24 :
  decodes [
    ([0x0C, 0x95, 0xCA], .st8Dbj 21 10 25), ([0x0D, 0x95, 0xCA], .st16Dbj 21 10 25),
    ([0x0E, 0x95, 0xCA], .st24Dbj 21 10 25), ([0x0F, 0x95, 0xCA], .st32Dbj 21 10 25),
    ([0x10, 0x95, 0xCA], .ldu8Dbj 21 10 25), ([0x11, 0x95, 0xCA], .ldu16Dbj 21 10 25),
    ([0x12, 0x95, 0xCA], .ldu24Dbj 21 10 25), ([0x13, 0x95, 0xCA], .ldu32Dbj 21 10 25),
    ([0x14, 0x95, 0xCA], .ld8Dbj 21 10 25), ([0x15, 0x95, 0xCA], .ld16Dbj 21 10 25),
    ([0x16, 0x95, 0xCA], .ld24Dbj 21 10 25), ([0x17, 0x95, 0xCA], .ld32Dbj 21 10 25),
    ([0x18, 0x95, 0xCA], .fld8Dbj 21 10 25), ([0x19, 0x95, 0xCA], .fld16Dbj 21 10 25),
    ([0x1A, 0x95, 0xCA], .fld24Dbj 21 10 25), ([0x1B, 0x95, 0xCA], .fld32Dbj 21 10 25)] = true ∧
  decodes [
    ([0x1C, 0x95, 0xCA], .pld8Dbj 21 10 25), ([0x1D, 0x95, 0xCA], .pld16Dbj 21 10 25),
    ([0x1E, 0x95, 0xCA], .pld24Dbj 21 10 25), ([0x1F, 0x95, 0xCA], .pld32Dbj 21 10 25),
    ([0x36, 0x95, 0xCA], .callDbj 21 10 25)] = true := by decide +kernel

theorem test_decode_base_offset24 :
  decodes [
    ([0x0C, 0xB5, 0x2A], .st8Dbn 21 10 (.short 5)), ([0x0D, 0xB5, 0x2A], .st16Dbn 21 10 (.short 5)),
    ([0x0E, 0xB5, 0x2A], .st24Dbn 21 10 (.short 5)), ([0x0F, 0xB5, 0x2A], .st32Dbn 21 10 (.short 5)),
    ([0x10, 0xB5, 0x2A], .ldu8Dbn 21 10 (.short 5)), ([0x11, 0xB5, 0x2A], .ldu16Dbn 21 10 (.short 5)),
    ([0x12, 0xB5, 0x2A], .ldu24Dbn 21 10 (.short 5)), ([0x13, 0xB5, 0x2A], .ldu32Dbn 21 10 (.short 5)),
    ([0x14, 0xB5, 0x2A], .ld8Dbn 21 10 (.short 5)), ([0x15, 0xB5, 0x2A], .ld16Dbn 21 10 (.short 5)),
    ([0x16, 0xB5, 0x2A], .ld24Dbn 21 10 (.short 5)), ([0x17, 0xB5, 0x2A], .ld32Dbn 21 10 (.short 5)),
    ([0x18, 0xB5, 0x2A], .fld8Dbn 21 10 (.short 5)), ([0x19, 0xB5, 0x2A], .fld16Dbn 21 10 (.short 5)),
    ([0x1A, 0xB5, 0x2A], .fld24Dbn 21 10 (.short 5)), ([0x1B, 0xB5, 0x2A], .fld32Dbn 21 10 (.short 5))] = true ∧
  decodes [
    ([0x1C, 0xB5, 0x2A], .pld8Dbn 21 10 (.short 5)), ([0x1D, 0xB5, 0x2A], .pld16Dbn 21 10 (.short 5)),
    ([0x1E, 0xB5, 0x2A], .pld24Dbn 21 10 (.short 5)), ([0x1F, 0xB5, 0x2A], .pld32Dbn 21 10 (.short 5)),
    ([0x36, 0xB5, 0x2A], .callDbn 21 10 (.short 5))] = true := by decide +kernel

theorem test_decode_stores32 :
  decodes [
    ([0x4C, 0x95, 0x32, 0xCC], .st8Dbjs 21 10 25 6 2), ([0x4D, 0x95, 0x32, 0xCC], .st16Dbjs 21 10 25 6 2),
    ([0x4E, 0x95, 0x32, 0xCC], .st24Dbjs 21 10 25 6 2), ([0x4F, 0x95, 0x32, 0xCC], .st32Dbjs 21 10 25 6 2),
    ([0x4C, 0xB5, 0x2A, 0xCC], .st8Dbjn 21 10 25 (.short 5) 2), ([0x4D, 0xB5, 0x2A, 0xCC], .st16Dbjn 21 10 25 (.short 5) 2),
    ([0x4E, 0xB5, 0x2A, 0xCC], .st24Dbjn 21 10 25 (.short 5) 2), ([0x4F, 0xB5, 0x2A, 0xCC], .st32Dbjn 21 10 25 (.short 5) 2),
    ([0x4C, 0x83, 0x32, 0xCD], .st8Mbjs (.short 3) 10 25 6 2), ([0x4D, 0x83, 0x32, 0xCD], .st16Mbjs (.short 3) 10 25 6 2),
    ([0x4E, 0x83, 0x32, 0xCD], .st24Mbjs (.short 3) 10 25 6 2), ([0x4F, 0x83, 0x32, 0xCD], .st32Mbjs (.short 3) 10 25 6 2),
    ([0x4C, 0xA3, 0x2A, 0xCD], .st8Mbjn (.short 3) 10 25 (.short 5) 2), ([0x4D, 0xA3, 0x2A, 0xCD], .st16Mbjn (.short 3) 10 25 (.short 5) 2),
    ([0x4E, 0xA3, 0x2A, 0xCD], .st24Mbjn (.short 3) 10 25 (.short 5) 2), ([0x4F, 0xA3, 0x2A, 0xCD], .st32Mbjn (.short 3) 10 25 (.short 5) 2)] = true := by decide +kernel

theorem test_decode_base_index32 :
  decodes [
    ([0x50, 0x95, 0x32, 0xCD], .ldu8Dbjs 21 10 25 6 2 true), ([0x51, 0x95, 0x32, 0xCD], .ldu16Dbjs 21 10 25 6 2 true),
    ([0x52, 0x95, 0x32, 0xCD], .ldu24Dbjs 21 10 25 6 2 true), ([0x53, 0x95, 0x32, 0xCD], .ldu32Dbjs 21 10 25 6 2 true),
    ([0x54, 0x95, 0x32, 0xCD], .ld8Dbjs 21 10 25 6 2 true), ([0x55, 0x95, 0x32, 0xCD], .ld16Dbjs 21 10 25 6 2 true),
    ([0x56, 0x95, 0x32, 0xCD], .ld24Dbjs 21 10 25 6 2 true), ([0x57, 0x95, 0x32, 0xCD], .ld32Dbjs 21 10 25 6 2 true),
    ([0x58, 0x95, 0x32, 0xCD], .fld8Dbjs 21 10 25 6 2 true), ([0x59, 0x95, 0x32, 0xCD], .fld16Dbjs 21 10 25 6 2 true),
    ([0x5A, 0x95, 0x32, 0xCD], .fld24Dbjs 21 10 25 6 2 true), ([0x5B, 0x95, 0x32, 0xCD], .fld32Dbjs 21 10 25 6 2 true),
    ([0x5C, 0x95, 0x32, 0xCD], .pld8Dbjs 21 10 25 6 2 true), ([0x5D, 0x95, 0x32, 0xCD], .pld16Dbjs 21 10 25 6 2 true),
    ([0x5E, 0x95, 0x32, 0xCD], .pld24Dbjs 21 10 25 6 2 true), ([0x5F, 0x95, 0x32, 0xCD], .pld32Dbjs 21 10 25 6 2 true)] = true ∧
  decodes [
    ([0x64, 0x95, 0x32, 0xCD], .lea8Dbjs 21 10 25 6 2 true), ([0x65, 0x95, 0x32, 0xCD], .lea16Dbjs 21 10 25 6 2 true),
    ([0x66, 0x95, 0x32, 0xCD], .lea24Dbjs 21 10 25 6 2 true), ([0x67, 0x95, 0x32, 0xCD], .lea32Dbjs 21 10 25 6 2 true),
    ([0x76, 0x95, 0x32, 0xCD], .callDbjs 21 10 25 6 2 true)] = true := by decide +kernel

theorem test_decode_base_index_imm32 :
  decodes [
    ([0x50, 0xB5, 0x2A, 0xCD], .ldu8Dbjn 21 10 25 (.short 5) 2 true), ([0x51, 0xB5, 0x2A, 0xCD], .ldu16Dbjn 21 10 25 (.short 5) 2 true),
    ([0x52, 0xB5, 0x2A, 0xCD], .ldu24Dbjn 21 10 25 (.short 5) 2 true), ([0x53, 0xB5, 0x2A, 0xCD], .ldu32Dbjn 21 10 25 (.short 5) 2 true),
    ([0x54, 0xB5, 0x2A, 0xCD], .ld8Dbjn 21 10 25 (.short 5) 2 true), ([0x55, 0xB5, 0x2A, 0xCD], .ld16Dbjn 21 10 25 (.short 5) 2 true),
    ([0x56, 0xB5, 0x2A, 0xCD], .ld24Dbjn 21 10 25 (.short 5) 2 true), ([0x57, 0xB5, 0x2A, 0xCD], .ld32Dbjn 21 10 25 (.short 5) 2 true),
    ([0x58, 0xB5, 0x2A, 0xCD], .fld8Dbjn 21 10 25 (.short 5) 2 true), ([0x59, 0xB5, 0x2A, 0xCD], .fld16Dbjn 21 10 25 (.short 5) 2 true),
    ([0x5A, 0xB5, 0x2A, 0xCD], .fld24Dbjn 21 10 25 (.short 5) 2 true), ([0x5B, 0xB5, 0x2A, 0xCD], .fld32Dbjn 21 10 25 (.short 5) 2 true),
    ([0x5C, 0xB5, 0x2A, 0xCD], .pld8Dbjn 21 10 25 (.short 5) 2 true), ([0x5D, 0xB5, 0x2A, 0xCD], .pld16Dbjn 21 10 25 (.short 5) 2 true),
    ([0x5E, 0xB5, 0x2A, 0xCD], .pld24Dbjn 21 10 25 (.short 5) 2 true), ([0x5F, 0xB5, 0x2A, 0xCD], .pld32Dbjn 21 10 25 (.short 5) 2 true)] = true ∧
  decodes [
    ([0x64, 0xB5, 0x2A, 0xCD], .lea8Dbjn 21 10 25 (.short 5) 2 true), ([0x65, 0xB5, 0x2A, 0xCD], .lea16Dbjn 21 10 25 (.short 5) 2 true),
    ([0x66, 0xB5, 0x2A, 0xCD], .lea24Dbjn 21 10 25 (.short 5) 2 true), ([0x67, 0xB5, 0x2A, 0xCD], .lea32Dbjn 21 10 25 (.short 5) 2 true),
    ([0x76, 0xB5, 0x2A, 0xCD], .callDbjn 21 10 25 (.short 5) 2 true)] = true := by decide +kernel

theorem test_decode_two_registers :
  decodes [
    ([0x20, 0x95, 0x32], .add 21 10 6), ([0x21, 0x95, 0x32], .sub 21 10 6),
    ([0x22, 0x95, 0x32], .mul 21 10 6), ([0x23, 0x95, 0x32], .div 21 10 6),
    ([0x24, 0x95, 0x32], .addnu 21 10 6), ([0x25, 0x95, 0x32], .subnu 21 10 6),
    ([0x26, 0x95, 0x32], .mulnu 21 10 6), ([0x27, 0x95, 0x32], .divnu 21 10 6),
    ([0x28, 0x95, 0x32], .and 21 10 6), ([0x29, 0x95, 0x32], .or 21 10 6),
    ([0x2A, 0x95, 0x32], .xor 21 10 6), ([0x2B, 0x95, 0x32], .cmp 21 10 6),
    ([0x2C, 0x95, 0x32], .extrct 21 10 6), ([0x2D, 0x95, 0x32], .lsr 21 10 6),
    ([0x2E, 0x95, 0x32], .asr 21 10 6), ([0x2F, 0x95, 0x32], .ror 21 10 6)] = true ∧
  decodes [
    ([0x33, 0x95, 0x32], .loop 21 10 6), ([0x34, 0x95, 0x32], .max 21 10 6),
    ([0x35, 0x95, 0x32], .min 21 10 6)] = true := by decide +kernel

theorem test_decode_register_immediate :
  decodes [
    ([0x20, 0xB5, 0x2A], .addi 21 10 (.short 5)), ([0x21, 0xB5, 0x2A], .subi 21 10 (.short 5)),
    ([0x22, 0xB5, 0x2A], .muli 21 10 (.short 5)), ([0x23, 0xB5, 0x2A], .divi 21 10 (.short 5)),
    ([0x24, 0xB5, 0x2A], .addnui 21 10 (.short 5)), ([0x25, 0xB5, 0x2A], .subnui 21 10 (.short 5)),
    ([0x26, 0xB5, 0x2A], .mulnui 21 10 (.short 5)), ([0x27, 0xB5, 0x2A], .divnui 21 10 (.short 5)),
    ([0x28, 0xB5, 0x2A], .andi 21 10 (.short 5)), ([0x29, 0xB5, 0x2A], .ori 21 10 (.short 5)),
    ([0x2A, 0xB5, 0x2A], .xori 21 10 (.short 5)), ([0x2B, 0xB5, 0x2A], .cmpi 21 10 (.short 5)),
    ([0x2C, 0xB5, 0x2A], .extrcti 21 10 (.short 5)), ([0x2D, 0xB5, 0x2A], .lsri 21 10 (.short 5)),
    ([0x2E, 0xB5, 0x2A], .asri 21 10 (.short 5)), ([0x2F, 0xB5, 0x2A], .rori 21 10 (.short 5))] = true ∧
  decodes [
    ([0x34, 0xB5, 0x2A], .maxi 21 10 (.short 5)), ([0x35, 0xB5, 0x2A], .mini 21 10 (.short 5))] = true := by decide +kernel

theorem test_decode_loop_vect :
  decodes [
    ([0x32, 0xB5, 0xB4], .vect 21 0x5A5), ([0x33, 0xB5, 0x2A], .loopi 21 10 5)] = true := by decide +kernel

theorem test_decode_three_registers :
  decodes [
    ([0x60, 0x95, 0x32, 0xCD], .add3 21 10 6 25 2 true), ([0x61, 0x95, 0x32, 0xCD], .sub3 21 10 6 25 2 true),
    ([0x62, 0x95, 0x32, 0xCD], .mac 21 10 6 25 2 true), ([0x63, 0x95, 0x32, 0xCD], .ddiv 21 10 6 25 2 true),
    ([0x68, 0x95, 0x32, 0xCD], .and3 21 10 6 25 2 true), ([0x69, 0x95, 0x32, 0xCD], .or3 21 10 6 25 2 true),
    ([0x6A, 0x95, 0x32, 0xCD], .xor3 21 10 6 25 2 true), ([0x6B, 0x95, 0x32, 0xCD], .insrt 21 10 6 25 2 true),
    ([0x6C, 0x95, 0x32, 0xCD], .extrctD 21 10 6 25 2 true), ([0x6D, 0x95, 0x32, 0xCD], .shr 21 10 6 25 2 true),
    ([0x6E, 0x95, 0x32, 0xCD], .asrD 21 10 6 25 2 true), ([0x6F, 0x95, 0x32, 0xCD], .rorD 21 10 6 25 2 true),
    ([0x70, 0x95, 0x32, 0xCD], .max3 21 10 6 25 2 true), ([0x71, 0x95, 0x32, 0xCD], .min3 21 10 6 25 2 true),
    ([0x72, 0x95, 0x32, 0xCD], .median3 21 10 6 25 2 true)] = true := by decide +kernel

theorem test_decode_three_immediate :
  decodes [
    ([0x60, 0xB5, 0x2A, 0xCD], .add3i 21 10 (.short 5) 25 2 true), ([0x61, 0xB5, 0x2A, 0xCD], .sub3i 21 10 (.short 5) 25 2 true),
    ([0x62, 0xB5, 0x2A, 0xCD], .maci 21 10 (.short 5) 25 2 true), ([0x63, 0xB5, 0x2A, 0xCD], .ddivi 21 10 (.short 5) 25 2 true),
    ([0x68, 0xB5, 0x2A, 0xCD], .and3i 21 10 (.short 5) 25 2 true), ([0x69, 0xB5, 0x2A, 0xCD], .or3i 21 10 (.short 5) 25 2 true),
    ([0x6A, 0xB5, 0x2A, 0xCD], .xor3i 21 10 (.short 5) 25 2 true), ([0x6B, 0xB5, 0x2A, 0xCD], .insrti 21 10 (.short 5) 25 2 true),
    ([0x6C, 0xB5, 0x2A, 0xCD], .extrctiD 21 10 (.short 5) 25 2 true), ([0x6D, 0xB5, 0x2A, 0xCD], .shri 21 10 (.short 5) 25 2 true),
    ([0x6E, 0xB5, 0x2A, 0xCD], .asriD 21 10 (.short 5) 25 2 true), ([0x6F, 0xB5, 0x2A, 0xCD], .roriD 21 10 (.short 5) 25 2 true),
    ([0x70, 0xB5, 0x2A, 0xCD], .max3i 21 10 (.short 5) 25 2 true), ([0x71, 0xB5, 0x2A, 0xCD], .min3i 21 10 (.short 5) 25 2 true),
    ([0x72, 0xB5, 0x2A, 0xCD], .median3I 21 10 (.short 5) 25 2 true)] = true := by decide +kernel

theorem test_decode_uninterpreted :
  decodes [
    ([0x73, 0xEF, 0xCD, 0xAB], .intp 0xABCDEF), ([0x74, 0xEF, 0xCD, 0xAB], .lut 0xABCDEF),
    ([0x75, 0xEF, 0xCD, 0xAB], .cmov 0xABCDEF), ([0x77, 0xEF, 0xCD, 0xAB], .container32 0xABCDEF),
    ([0x7A, 0xEF, 0xCD, 0xAB], .mmov 0xABCDEF), ([0x7B, 0xEF, 0xCD, 0xAB], .pcnd 0xABCDEF),
    ([0x7C, 0xEF, 0xCD, 0xAB], .pcb1 0xABCDEF), ([0x7D, 0xEF, 0xCD, 0xAB], .stm 0xABCDEF),
    ([0x7E, 0xEF, 0xCD, 0xAB], .ldm 0xABCDEF), ([0x7F, 0xEF, 0xCD, 0xAB], .tt 0xABCDEF)] = true := by decide +kernel

theorem test_decode_one_byte :
  decodes [
    ([0x00], .trap), ([0x01], .brk),
    ([0x02], .nxth), ([0x03], .nxtw)] = true := by decide +kernel

theorem test_decode_displacements : decodes
    [([0x04, 0x05, 0x81], .br (.d16 0x8105)), ([0x44, 0x05, 0x23, 0x81], .br (.d24 0x812305)),
      ([0x05, 0x05, 0x81], .callr (.d16 0x8105)), ([0x45, 0x05, 0x23, 0x81], .callr (.d24 0x812305))] = true := by decide +kernel

/-- The forms of the 5-bit immediate field (30_encoding.md R100), on ADDI R3, R1. -/
theorem test_decode_immediates : decodes
    [([0x20, 0x63, 0x38], .addi 3 1 (.short 7)), ([0x20, 0x63, 0x60], .addi 3 1 (.neg 0)),
      ([0x20, 0x63, 0x78], .addi 3 1 (.neg 3)), ([0x20, 0x63, 0x40, 0x81], .addi 3 1 (.data1 0x81)),
      ([0x20, 0x63, 0x48, 0x02, 0x81], .addi 3 1 (.data2 0x8102)),
      ([0x20, 0x63, 0x50, 0x03, 0x02, 0x81], .addi 3 1 (.data3 0x810203)),
      ([0x20, 0x63, 0x58, 0x04, 0x03, 0x02, 0x81], .addi 3 1 (.data4 0x81020304)),
      ([0x20, 0x63, 0x80, 0x08], .addi 3 1 (.wide 0x008)), ([0x20, 0x63, 0xF8, 0xC1], .addi 3 1 (.wide 0xFC1))] = true := by decide

/-- Two immediates: the bytes of `n` come before those of `m` (30_encoding.md R99 with its decision D23). -/
theorem test_decode_two_immediates : decodes
    [([0x4F, 0x6B, 0x58, 0x01, 0x00, 0x01, 0x00, 0x00, 0x78, 0x56, 0x34, 0x12],
      .st32Mbjn (.data4 0x12345678) 1 0 (.data4 0x100) 0)] = true := by decide

/-- Words that are no instruction: unassigned opcodes, LDI with bit 13 set, too few bytes. -/
theorem test_decode_rejects :
    decode [0x30, 0, 0] = .error (.unassignedOpcode 0x30) ∧ decode [0x46, 0, 0, 0] = .error (.unassignedOpcode 0x46) ∧
    decode [0xC9, 0, 0, 0, 0, 0] = .error (.unassignedOpcode 0xC9) ∧ decode [0x08, 0x23, 0] = .error (.ldiXBit 0x08) ∧
    decode [0x20, 0x43] = .error .truncated ∧ decode [0x20, 0x63, 0x48, 0x02] = .error .truncated ∧
    decode [] = .error .truncated := by decide

/-- Opcode 0x37, bits `sssss kkkkk z ddddd` above the opcode (47_single_operand.md R310): with d = 3, s = 1 and
sub-opcode 5, z = 0 and z = 1, whatever mnemonic an implementation gives sub-opcode 5. -/
theorem test_decode_single_operand (m : SingleOp) (h : subop24 5 = some m) :
    decode [0x37, 0x43, 0x09] = .ok (singleInstr m 3 1 false) ∧ decode [0x37, 0x63, 0x09] = .ok (singleInstr m 3 1 true) := by
  constructor
  · show (match subop24 5 with | some m => Except.ok (singleInstr m 3 1 false) | none => .error (DecodeError.unassignedSubOpcode 5)) = _
    rw [h]
  · show (match subop24 5 with | some m => Except.ok (singleInstr m 3 1 true) | none => .error (DecodeError.unassignedSubOpcode 5)) = _
    rw [h]

/-- The mnemonic of a sub-opcode is the instruction of that name, for every one of the 39. -/
theorem test_decode_single_operand_names : (([
    (.inp, .inp), (.out, .out), (.mov, .mov), (.not, .not), (.neg, .neg), (.inc, .inc),
    (.dec, .dec), (.abs, .abs), (.nabs, .nabs), (.ldzcnt, .ldzcnt), (.ld1cnt, .ld1cnt), (.trzcnt, .trzcnt),
    (.tr1cnt, .tr1cnt), (.popcnt, .popcnt), (.sqrt, .sqrt), (.sinpi, .sinpi), (.cospi, .cospi), (.tanpi, .tanpi),
    (.asinpi, .asinpi), (.acospi, .acospi), (.atanpi, .atanpi), (.int, .int), (.flt, .flt), (.expon, .expon),
    (.fract, .fract), (.fsqrt, .fsqrt), (.frsqrt, .frsqrt), (.frcp, .frcp), (.ln2p1, .ln2p1), (.ln2, .ln2),
    (.exp2m1, .exp2m1), (.exp2, .exp2), (.rnd, .rnd), (.rndtev, .rndtev), (.rndtod, .rndtod), (.rndtz, .rndtz),
    (.rndfz, .rndfz), (.ceil, .ceil), (.floor, .floor)] : List (SingleOp × Form1)).all fun p =>
    singleInstr p.1 3 1 true == p.2 3 1 true && singleInstr p.1 4 2 false == p.2 4 2 false) = true := by decide +kernel

/-! ## WellFormed -/

/-- A row without an encoding is not well-formed (30_encoding.md R109 to R111 give it no opcode). -/
theorem test_wellformed_no_encoding :
    ∀ i ∈ [Instr.cvt, .lnp1, .ln, .logp1, .log, .expm1, .exp, .exp10m1, .exp10, .sin, .cos, .tan, .asin, .acos, .atan, .movi, .merg, .eadd, .mv2, .shl], WellFormed i = false := by decide +kernel

/-- A single operand instruction is not well-formed when the implementation gives it no sub-opcode, and is when it does. -/
theorem test_wellformed_single_operand (d rs : RegNum) (z : Bool) :
    (Config.subopCode .neg = none → WellFormed (.neg d rs z) = false) ∧
      ((∃ k, Config.subopCode .neg = some k ∧ subop24 k = some .neg) → WellFormed (.neg d rs z) = true) := by
  refine ⟨fun h => ?_, fun ⟨k, h, hk⟩ => ?_⟩
  · show SingleOp.assigned .neg = false
    simp [SingleOp.assigned, h]
  · show SingleOp.assigned .neg = true
    simp [SingleOp.assigned, h, hk]

theorem test_wellformed_others : WellFormed (.add 3 1 2) = true ∧ WellFormed (.ldi24 3 .s 0x800000) = true ∧
    WellFormed (.st32Mbjn (.data4 1) 1 0 (.data4 2) 0) = true ∧ WellFormed .trap = true := by decide

/-! ## One step: vectors of 95_test_vectors.md -/

/-- ADDI R3, R1, #-1 -/
theorem test_V4_addi : gives (step (machine [0x20, 0x63, 0x78] [] [(1, 0, .s)])) 0x1003 [(3, 0xFFFFFFFF, .s), (28, 0xFFFFFFFF, .s)] = true := by decide

/-- ADDI R3, R1, #0x8000 (2 bytes follow) -/
theorem test_V10_addi : gives (step (machine [0x20, 0x63, 0x48, 0x00, 0x80] [] [(1, 0, .s)])) 0x1005 [(3, 0xFFFF8000, .s), (28, 0xFFFFFFFF, .s)] = true := by decide

/-- ORI R3, R1, #0x80 (1 byte follows) -/
theorem test_V13_ori : gives (step (machine [0x29, 0x63, 0x40, 0x80] [] [(1, 0, .s)])) 0x1004 [(3, 0x80, .u)] = true := by decide

/-- ADD R3, R1, R2 -/
theorem test_V22_add : gives (step (machine [0x20, 0x43, 0x10] [] [(1, 0x7FFFFFFF, .s), (2, 1, .s)])) 0x1003 [(3, 0x80000000, .s), (28, 0, .s)] = true := by decide

/-- ADDNU R3, R31, R1 -/
theorem test_V28_addnu : gives (step (machine [0x24, 0xC3, 0x0F] [] [(1, 0, .u)])) 0x1003 [(3, 0x1003, .u)] = true := by decide

/-- ADD R3, R1, R2 -/
theorem test_V31_add : stops (step (machine [0x20, 0x43, 0x10] [] [(1, 1, .u), (2, 1, .s)])) (.fault (.trap .typeMismatch)) = true := by decide

/-- ADDI R3, R1, #1 -/
theorem test_V37_addi : stops (step (machine [0x20, 0x63, 0x08] [] [(1, 1, .p)])) (.refused .floatOrPosit) = true := by decide

/-- SUB R3, R1, R2 -/
theorem test_V40_sub : gives (step (machine [0x21, 0x43, 0x10] [] [(1, 5, .u), (2, 3, .u)])) 0x1003 [(3, 0xFFFFFFFE, .u), (28, 0xFFFFFFFF, .u)] = true := by decide

/-- SUB R3, R1, R2 -/
theorem test_V43_sub : gives (step (machine [0x21, 0x43, 0x10] [] [(1, 0xFFFFFFFB, .s), (2, 3, .s)])) 0x1003 [(3, 8, .s), (28, 0, .s)] = true := by decide

/-- SUBNU R3, R1, R2 -/
theorem test_V46_subnu : gives (step (machine [0x25, 0x43, 0x10] [] [(1, 5, .u), (2, 3, .u), (28, 9, .u)])) 0x1003 [(3, 0xFFFFFFFE, .u), (28, 9, .u)] = true := by decide

/-- ADD3 R4, R1, R2, R3 (zz=01, u=0) -/
theorem test_V49_add3 : gives (step (machine [0x60, 0x44, 0x10, 0x1A] [] [(1, 0xA, .u), (2, 3, .u), (3, 4, .u)])) 0x1004 [(4, 9, .u)] = true := by decide

/-- SUB3 R4, R1, R2, R3 (zz=10, u=0) -/
theorem test_V55_sub3 : gives (step (machine [0x61, 0x44, 0x10, 0x1C] [] [(1, 5, .u), (2, 7, .u), (3, 0xA, .u)])) 0x1004 [(4, 0x16, .u)] = true := by decide

/-- AND R31, R1, R2 -/
theorem test_V58_and : gives (step (machine [0x28, 0x5F, 0x10] [] [(1, 0x2FFF, .u), (2, 0xFF00, .u)])) 0x2F00 [] = true := by decide

/-- AND3 R4, R1, R2, R3 (zz=01) -/
theorem test_V67_and3 : gives (step (machine [0x68, 0x44, 0x10, 0x1A] [] [(1, 0xFF, .u), (2, 0x3C, .u), (3, 0xF0, .u)])) 0x1004 [(4, 0xC, .u)] = true := by decide

/-- OR3I R4, R1, #1, R3 -/
theorem test_V70_or3i : gives (step (machine [0x69, 0x64, 0x08, 0x18] [] [(1, 8, .u), (3, 4, .u)])) 0x1004 [(4, 0xD, .u)] = true := by decide

/-- MUL R3, R1, R2 -/
theorem test_V73_mul : gives (step (machine [0x22, 0x43, 0x10] [] [(1, 0xFFFFFFFF, .u), (2, 0xFFFFFFFF, .u)])) 0x1003 [(3, 1, .u), (28, 0xFFFFFFFE, .u)] = true := by decide

/-- MUL R3, R1, R2 -/
theorem test_V76_mul : gives (step (machine [0x22, 0x43, 0x10] [] [(1, 0x80000000, .s), (2, 0xFFFFFFFF, .s)])) 0x1003 [(3, 0x80000000, .s), (28, 0, .s)] = true := by decide

/-- MAC R4, R1, R2, R3 (zz=01, u=0) -/
theorem test_V82_mac : gives (step (machine [0x62, 0x44, 0x10, 0x1A] [] [(1, 3, .u), (2, 4, .u), (3, 2, .u)])) 0x1004 [(4, 0xA, .u)] = true := by decide

/-- DIV R3, R1, R2 -/
theorem test_V85_div : gives (step (machine [0x23, 0x43, 0x10] [] [(1, 0xFFFFFFEF, .s), (2, 5, .s)])) 0x1003 [(3, 0xFFFFFFFD, .s), (28, 0xFFFFFFFE, .s)] = true := by decide

/-- DIV R3, R1, R2 -/
theorem test_V91_div : stops (step (machine [0x23, 0x43, 0x10] [] [(1, 0x80000000, .s), (2, 0xFFFFFFFF, .s)])) (.fault .divideOverflow) = true := by decide

/-- DDIV R4, R1, R2, R3 (u=1) -/
theorem test_V97_ddiv : gives (step (machine [0x63, 0x44, 0x10, 0x19] [] [(1, 1, .u), (2, 0xFFFFFFFF, .u), (3, 0xFFFFFFFE, .u)])) 0x1004 [(4, 0xFFFFFFFF, .u), (28, 0, .u)] = true := by decide

/-- DDIV R4, R1, R2, R3 (zz=10) -/
theorem test_V100_ddiv : stops (step (machine [0x63, 0x44, 0x10, 0x1C] [] [(1, 0, .u), (2, 2, .u), (3, 1, .u)])) (.refused .operandModifier) = true := by decide

/-- LSR R3, R1, R2 -/
theorem test_V103_lsr : gives (step (machine [0x2D, 0x43, 0x10] [] [(1, 0x80000001, .u), (2, 0x1F, .u)])) 0x1003 [(3, 1, .u)] = true := by decide

/-- LSR R3, R1, R2 -/
theorem test_V106_lsr : stops (step (machine [0x2D, 0x43, 0x10] [] [(1, 1, .u), (2, 0x20, .u)])) (.refused .shiftCountRange) = true := by decide

/-- LSRI R3, R1, #(0,8) (13-bit form) -/
theorem test_V112_lsri : stops (step (machine [0x2D, 0x63, 0x80, 0x08] [] [(1, 0xFFFFFFFF, .u)])) (.refused .shiftLocLen) = true := by decide

/-- ASR R3, R1, R2 -/
theorem test_V115_asr : gives (step (machine [0x2E, 0x43, 0x10] [] [(1, 0x80000000, .s), (2, 0x1F, .u)])) 0x1003 [(3, 0xFFFFFFFF, .s)] = true := by decide

/-- RORI R3, R1, #4 -/
theorem test_V121_rori : gives (step (machine [0x2F, 0x63, 0x20] [] [(1, 0x12345678, .u)])) 0x1003 [(3, 0x81234567, .u)] = true := by decide

/-- SHR R4, R1, R2, R3 -/
theorem test_V124_shr : gives (step (machine [0x6D, 0x44, 0x10, 0x18] [] [(1, 0x89ABCDEF, .u), (2, 0x20, .u), (3, 0x1234567, .u)])) 0x1004 [(4, 0x1234567, .u)] = true := by decide

/-- ASRI R4, R1, #1, R3 (double) -/
theorem test_V133_asri : gives (step (machine [0x6E, 0x64, 0x08, 0x18] [] [(1, 2, .u), (3, 1, .u)])) 0x1004 [(4, 0x80000001, .u)] = true := by decide

/-- EXTRCT R3, R1, R2 -/
theorem test_V136_extrct : gives (step (machine [0x2C, 0x43, 0x10] [] [(1, 0x89ABCDEF, .s), (2, 0x20, .u)])) 0x1003 [(3, 0x89ABCDEF, .s)] = true := by decide

/-- EXTRCT R3, R1, R2 -/
theorem test_V139_extrct : stops (step (machine [0x2C, 0x43, 0x10] [] [(1, 0xA50, .u), (2, 0x1104, .u)])) (.refused .bitFieldRange) = true := by decide

/-- EXTRCTI R3, R1, #(8,4) -/
theorem test_V142_extrcti : gives (step (machine [0x2C, 0x63, 0x90, 0x04] [] [(1, 0xA50, .s)])) 0x1004 [(3, 0xFFFFFFFA, .s)] = true := by decide

/-- EXTRCT R4, R1, R2, R3 (double) -/
theorem test_V148_extrct : stops (step (machine [0x6C, 0x44, 0x10, 0x18] [] [(1, 0, .u), (2, 0x21, .u), (3, 0, .u)])) (.refused .bitFieldRange) = true := by decide

/-- LDU24 R3, [R1 + R2*3] -/
theorem test_V163_ldu24 : gives (step (machine [0x12, 0x43, 0x10] [0x80, 0x7F, 0xFF, 0x01, 0x78, 0x56, 0x34, 0x92] [(1, 0x8000, .u), (2, 1, .u)])) 0x1003 [(3, 0x567801, .u)] = true := by decide

/-- LD32 R3, [R1 + #3] -/
theorem test_V166_ld32 : gives (step (machine [0x17, 0x63, 0x18] [0x80, 0x7F, 0xFF, 0x01, 0x78, 0x56, 0x34, 0x92] [(1, 0x8000, .u)])) 0x1003 [(3, 0x34567801, .s)] = true := by decide

/-- PLD16 R3, [R1 + #0] -/
theorem test_V169_pld16 : gives (step (machine [0x1D, 0x63, 0x00] [0x80, 0x7F, 0xFF, 0x01, 0x78, 0x56, 0x34, 0x92] [(1, 0x8000, .u)])) 0x1003 [(3, 0x7F80, .p)] = true := by decide

/-- LDU8 R3, [R1 + R0*1] -/
theorem test_V172_ldu8 : gives (step (machine [0x10, 0x43, 0x00] [0x80, 0x7F, 0xFF, 0x01, 0x78, 0x56, 0x34, 0x92] [(0, 0x1234, .u), (1, 0x8004, .u)])) 0x1003 [(3, 0x78, .u)] = true := by decide

/-- LDU8 R3, [R1 + R2*1] -/
theorem test_V175_ldu8 : gives (step (machine [0x10, 0x43, 0x10] [0x80, 0x7F, 0xFF, 0x01, 0x78, 0x56, 0x34, 0x92] [(1, 0x8005, .u), (2, 0xFFFFFFFC, .s)])) 0x1003 [(3, 0x7F, .u)] = true := by decide

/-- LD32 R31, [R30 + #0] -/
theorem test_V178_ld32 : gives (step (machine [0x17, 0xBF, 0x07] [0x80, 0x7F, 0xFF, 0x01, 0x78, 0x56, 0x34, 0x92] [(30, 0x8004, .u)])) 0x92345678 [] = true := by decide

/-- LD24 R3, [R1 + R4*3*3 + R2] (yy=10) -/
theorem test_V181_ld24 : gives (step (machine [0x56, 0x43, 0x10, 0x24] [0x80, 0x7F, 0xFF, 0x01, 0x78, 0x56, 0x34, 0x92] [(1, 0x7FF7, .u), (2, 0, .u), (4, 1, .u)])) 0x1004 [(3, 0xFFFF7F80, .s)] = true := by decide

/-- LDI8 R3, #0xFF, U -/
theorem test_V184_ldi8 : gives (step (machine [0x08, 0x03, 0xFF] [] [])) 0x1003 [(3, 0xFF, .u)] = true := by decide

/-- LDI24 R3, #0x123456, U -/
theorem test_V190_ldi24 : gives (step (machine [0x88, 0x03, 0x56, 0x34, 0x12] [] [])) 0x1005 [(3, 0x123456, .u)] = true := by decide

/-- LEA8 R3, [R1 + R4*1*1 + R2] -/
theorem test_V193_lea8 : gives (step (machine [0x64, 0x43, 0x10, 0x20] [] [(1, 0x1000, .u), (2, 0x20, .u), (4, 3, .u)])) 0x1004 [(3, 0x1023, .u)] = true := by decide

/-- LEA8 R3, [R31 + R0*1*1 + #0] -/
theorem test_V196_lea8 : gives (step (machine [0x64, 0xE3, 0x07, 0x00] [] [])) 0x1004 [(3, 0x1004, .u)] = true := by decide

/-- ST16 R3, [R1 + R2*2] -/
theorem test_V199_st16 : gives (step (machine [0x0D, 0x43, 0x10] [] [(1, 0x8001, .u), (2, 1, .u), (3, 0x12345678, .u)])) 0x1003 [] = true ∧
    leaves (step (machine [0x0D, 0x43, 0x10] [] [(1, 0x8001, .u), (2, 1, .u), (3, 0x12345678, .u)])) 0x8003 [0x78, 0x56] = true := by decide

/-- ST8 R3, [R28 + #0x1000] (2 bytes follow) -/
theorem test_V205_st8 : stops (step (machine [0x0C, 0x23, 0x4F, 0x00, 0x10] [] [(3, 0, .u)])) (.fault (.storeToText 0x1000)) = true := by decide

/-- ST16 #-1, [R1 + R4*1*2 + R2] (u=1) -/
theorem test_V208_st16 : gives (step (machine [0x4D, 0x4F, 0x10, 0x21] [] [(1, 0x8000, .u), (2, 1, .u), (4, 1, .u)])) 0x1004 [] = true ∧
    leaves (step (machine [0x4D, 0x4F, 0x10, 0x21] [] [(1, 0x8000, .u), (2, 1, .u), (4, 1, .u)])) 0x8003 [0xFF, 0xFF] = true := by decide

/-- TRAP -/
theorem test_V211_trap : stops (step (machine [0x00] [] [])) (.fault (.trap .illegalInstruction)) = true := by decide

/-- BR -0x8000 -/
theorem test_V220_br : gives (step (textHere 0x9000 [0x04, 0x00, 0x80] [])) 0x1003 [] = true := by decide

/-- CALLR -4 (32-bit) -/
theorem test_V223_callr : gives (step (machine [0x45, 0xFC, 0xFF, 0xFF] [] [(0, 7, .u)])) 0x1000 [(0, 0x1004, .u)] = true := by decide

/-- CALL R31, [R2 + R0] -/
theorem test_V226_call : gives (step (machine [0x36, 0x9F, 0x00] [] [(2, 0x4000, .s)])) 0x4000 [] = true := by decide

/-- CALL R1, [R2 + R3*1 + R4] (u=1) -/
theorem test_V229_call : stops (step (machine [0x76, 0x81, 0x20, 0x19] [] [(2, 0, .u), (3, 0, .u), (4, 0, .u)])) (.refused .loadUBit) = true := by decide

/-- BRZ R5, -128 -/
theorem test_V232_brz : gives (step (machine [0x07, 0x05, 0x80] [] [(5, 0, .u)])) 0xF83 [] = true := by decide

/-- BRGEZ R5, +0x200 (32-bit) -/
theorem test_V235_brgez : gives (step (machine [0x47, 0x45, 0x00, 0x02] [] [(5, 0xFFFFFFFF, .s)])) 0x1004 [] = true := by decide

/-- BRNZ R31, +4 -/
theorem test_V238_brnz : gives (step (machine [0x07, 0x9F, 0x04] [] [])) 0x1007 [] = true := by decide

/-- opcode 0x30 -/
theorem test_V247_opcode : stops (step (machine [0x30, 0x00, 0x00] [] [])) (.fault (.trap .illegalInstruction)) = true := by decide

/-- VECT (opcode 0x32) -/
theorem test_V271_vect : stops (step (machine [0x32, 0x00, 0x00] [] [])) (.refused .vect) = true := by decide

/-- MAX R3, R1, R2 -/
theorem test_V280_max : gives (step (machine [0x34, 0x43, 0x10] [] [(1, 7, .u), (2, 9, .u), (28, 3, .u)])) 0x1003 [(3, 9, .u), (28, 3, .u)] = true := by decide

/-- MIN R3, R1, R2 -/
theorem test_V283_min : gives (step (machine [0x35, 0x43, 0x10] [] [(1, 0x80000000, .s), (2, 0x7FFFFFFF, .s)])) 0x1003 [(3, 0x80000000, .s)] = true := by decide

/-- MINI R3, R1, #0xFF (1 byte follows) -/
theorem test_V286_mini : gives (step (machine [0x35, 0x63, 0x40, 0xFF] [] [(1, 0x1000, .u)])) 0x1004 [(3, 0xFF, .u)] = true := by decide

/-- MAX3I R4, R1, #0, R3 -/
theorem test_V292_max3i : gives (step (machine [0x70, 0x64, 0x00, 0x18] [] [(1, 0xFFFFFFFB, .s), (3, 0xFFFFFFF9, .s)])) 0x1004 [(4, 0, .s)] = true := by decide

/-- MEDIAN3 R4, R1, R2, R3 -/
theorem test_V295_median3 : gives (step (machine [0x72, 0x44, 0x10, 0x18] [] [(1, 5, .u), (2, 9, .u), (3, 7, .u)])) 0x1004 [(4, 7, .u)] = true := by decide

/-- MEDIAN3 R4, R1, #0, R3 (clamp to 0..100) -/
theorem test_V304_median3 : gives (step (machine [0x72, 0x64, 0x00, 0x18] [] [(1, 0xFFFFFFEC, .s), (3, 0x64, .s)])) 0x1004 [(4, 0, .s)] = true := by decide

/-- INTP (opcode 0x73) -/
theorem test_V307_intp : stops (step (machine [0x73, 0x00, 0x00, 0x00] [] [])) (.refused .intp) = true := by decide

/-! ## Single operand instructions, whose opcode byte alone does not fix them: exec at pc 0x1000 -/

/-- MOV R3, R1 -/
theorem test_V313_mov : gives (exec (.mov 3 1 false) (withRegs [(1, 7, .s)])) 0x1003 [(3, 7, .s)] = true := by decide

/-- MOV R3, R1 (z=1) -/
theorem test_V316_mov : stops (exec (.mov 3 1 true) (withRegs [(1, 0x3F800000, .f)])) (.refused .floatOrPosit) = true := by decide

/-- NOT R3, R1 -/
theorem test_V319_not : gives (exec (.not 3 1 false) (withRegs [(1, 0xFFFF, .s)])) 0x1003 [(3, 0xFFFF0000, .u)] = true := by decide

/-- NEG R3, R1 -/
theorem test_V322_neg : gives (exec (.neg 3 1 false) (withRegs [(1, 5, .s)])) 0x1003 [(3, 0xFFFFFFFB, .s)] = true := by decide

/-- NEG R3, R1 -/
theorem test_V325_neg : gives (exec (.neg 3 1 false) (withRegs [(1, 0, .u)])) 0x1003 [(3, 0, .u)] = true := by decide

/-- INC R3, R1 -/
theorem test_V328_inc : gives (exec (.inc 3 1 false) (withRegs [(1, 0x7FFFFFFF, .s)])) 0x1003 [(3, 0x80000000, .s)] = true := by decide

/-- ABS R3, R1 -/
theorem test_V331_abs : gives (exec (.abs 3 1 false) (withRegs [(1, 0xFFFFFFFB, .s)])) 0x1003 [(3, 5, .s)] = true := by decide

/-- NABS R3, R1 -/
theorem test_V334_nabs : gives (exec (.nabs 3 1 false) (withRegs [(1, 5, .s)])) 0x1003 [(3, 0xFFFFFFFB, .s)] = true := by decide

/-- LDZCNT R3, R1 -/
theorem test_V337_ldzcnt : gives (exec (.ldzcnt 3 1 false) (withRegs [(1, 0, .u)])) 0x1003 [(3, 0x20, .u)] = true := by decide

/-- LD1CNT R3, R1 -/
theorem test_V340_ld1cnt : gives (exec (.ld1cnt 3 1 false) (withRegs [(1, 0xFFFFFFFF, .u)])) 0x1003 [(3, 0x20, .u)] = true := by decide

/-- TRZCNT R3, R1 -/
theorem test_V343_trzcnt : gives (exec (.trzcnt 3 1 false) (withRegs [(1, 8, .u)])) 0x1003 [(3, 3, .u)] = true := by decide

/-- POPCNT R3, R1 -/
theorem test_V346_popcnt : gives (exec (.popcnt 3 1 false) (withRegs [(1, 0xF0F0, .u)])) 0x1003 [(3, 8, .u)] = true := by decide

/-- LDZCNT R3, R1 -/
theorem test_V349_ldzcnt : stops (exec (.ldzcnt 3 1 false) (withRegs [(1, 0, .f)])) (.refused .floatOrPosit) = true := by decide

/-- SQRT R3, R1 -/
theorem test_V352_sqrt : gives (exec (.sqrt 3 1 false) (withRegs [(1, 0xFFFFFFFF, .u)])) 0x1003 [(3, 0xFFFF, .u)] = true := by decide

/-- SQRT R3, R1 (z=1) -/
theorem test_V355_sqrt : gives (exec (.sqrt 3 1 true) (withRegs [(1, 0x10, .u)])) 0x1003 [(3, 0xFFFFFFFC, .u)] = true := by decide

/-! ## R28 after `poisonResidue()`, and the 13-bit immediate of a double-length EXTRCTI -/

/-- AND3 R4, R1, R2, R3 (u=1): the result is written and R28 holds no value. -/
theorem test_V68_and3 :
    let o := step (machine [0x68, 0x44, 0x10, 0x19] [] [(1, 0xFF, .u), (2, 0x3C, .u), (3, 0xF0, .u), (28, 7, .u)])
    gives o 0x1004 [(4, 0x30, .u)] = true ∧ loses o = true := by decide

/-- ADD R28, R1, R2: the sum is lost with the residue. -/
theorem test_V25_add_r28 :
    let o := step (machine [0x20, 0x5C, 0x10] [] [(1, 5, .u), (2, 7, .u), (28, 9, .u)])
    gives o 0x1003 [(1, 5, .u)] = true ∧ loses o = true := by decide

/-- ADDNU R3, R28, R1, the third instruction of program P7 (c), in the state the second leaves. -/
theorem test_P7_c :
    stops (step (machine [0x24, 0x03, 0x0F] [] [(1, 1, .u)]).poisonResidue) (.fault (.unwrittenRegister 28)) = true := by decide

/-- A write of R28 makes it readable (10_state.md R29), and as a base it reads as zero all the time (R22). -/
theorem test_residue_found :
    loses (exec (.ldi8 28 .u 5) (withRegs []).poisonResidue) = false ∧
    gives (exec (.lea8Dbjn 3 28 0 (.short 7) 0 false) (withRegs []).poisonResidue) 0x1004 [(3, 7, .u)] = true := by decide

/-- EXTRCTI R4, R1, #<32,32>, R3: the upper half of the pair (43_shift_bitfield.md R216, R217 with 30_encoding.md R103). -/
theorem test_extrcti_upper_half :
    gives (exec (.extrctiD 4 1 (.wide 0x820) 3 0 false) (withRegs [(1, 1, .u), (3, 0x89ABCDEF, .s)])) 0x1005
      [(4, 0x89ABCDEF, .u)] = true := by decide

/-! ## Witnesses: a state and operands that meet the hypotheses of each obligation that has any -/

/-- R1 to R4 hold numbers of type U. -/
def unsigned4 : State := withRegs [(1, 6, .u), (2, 7, .u), (3, 0xFFFFFFFF, .u), (4, 0, .u)]

/-- R1 to R4 hold numbers of type S, the extreme ones among them. -/
def signed4 : State := withRegs [(1, 0x80000000, .s), (2, 0xFFFFFFFF, .s), (3, 1, .s), (4, 0x7FFFFFFF, .s)]

/-- R1 holds a float, R2 a Posit, R3 an unsigned and R4 a signed number. -/
def mixed4 : State := withRegs [(1, 0x3F800000, .f), (2, 0x40000000, .p), (3, 7, .u), (4, 9, .s)]

/-- R28 holds no value; R1 to R3 can be read. -/
def lost : State := (withRegs [(1, 6, .u), (2, 7, .u), (3, 9, .u)]).poisonResidue

/-- The hypothesis that registers can be read, and its failure: R28 alone, in each operand position, makes it fail. -/
theorem witness_readable :
    unsigned4.readable [1, 28, 31] = true ∧ lost.readable [1, 2, 3] = true ∧ lost.readable [31] = true ∧
    lost.readable [28] = false ∧ lost.readable [28, 1] = false ∧ lost.readable [1, 28] = false ∧
    lost.readable [28, 2, 3] = false ∧ lost.readable [1, 28, 3] = false ∧ lost.readable [1, 2, 28] = false := by decide

/-- A state whose map holds the addresses from `a` up only, as `ram`. -/
def onlyRam (a n : Nat) (regs : List (RegNum × Word × TyCode)) : State :=
  { withRegs regs with mem := { map := [{ base := a, size := n, kind := .ram }], cells := [] } }

theorem witness_DecodeEncode : WellFormed (.ddivi 4 1 (.wide 0x204) 3 0 true) = true ∧ WellFormed .trap = true := by decide

theorem witness_EncodeDecode : decode [0x20, 0x43, 0x10] = .ok (.add 3 1 2) := by decide

theorem witness_OneByteInstructions : WellFormed .nxtw = true ∧ instrLength .nxtw = 1 ∧ Instr.nxtw ∈ [.trap, .brk, .nxth, .nxtw] := by
  decide

/-- A store of an immediate with four bytes of data for each of its two immediates. -/
def long : List Byte := [0x4F, 0x6B, 0x58, 0x01, 0x00, 0x01, 0x00, 0x00, 0x78, 0x56, 0x34, 0x12]

/-- The longest instruction, at the last place of the text of the map after reset. -/
theorem witness_StepRunsDecoded :
    let s := { State.reset with pc := 0x7FF4, mem := State.reset.mem.setBytes 0x7FF4 long }
    let i := Instr.st32Mbjn (.data4 0x12345678) 1 0 (.data4 0x100) 0
    instrLength i = 12 ∧ Fetchable s s.pc.toNat (instrLength i) ∧ decode (bytesAt s s.pc.toNat (instrLength i)) = .ok i := by
  unfold Fetchable; decide

/-- An absent opcode byte; one that is ram. -/
theorem witness_FetchStops_opcode :
    (onlyRam 0 0x1000 []).mem.kind (onlyRam 0 0x1000 []).pc.toNat = none ∧
    State.reset.mem.kind ({ State.reset with pc := 0x8000 } : State).pc.toNat = some .ram := by decide

/-- ADD at 0xFFFFFFFE passes the end of the address space. -/
theorem witness_FetchStops_wrap :
    let s := textHere 0xFFFFFFFE [0x20, 0x43] []
    s.mem.kind s.pc.toNat = some .text ∧ 2 ^ 32 < s.pc.toNat + baseLen (s.mem.byte s.pc.toNat).toNat := by decide

/-- ADD at 0xFFFFFFFD just fits; its third byte is absent. -/
theorem witness_FetchStops_absent :
    let s := textHere 0xFFFFFFFD [0x20, 0x43] []
    let a := s.pc.toNat
    s.mem.kind a = some .text ∧ a + baseLen (s.mem.byte a).toNat = 2 ^ 32 ∧
      (∀ j < 2, (s.mem.kind (a + j)).isSome = true) ∧ s.mem.kind (a + 2) = none := by decide

/-- ADD with a text byte, a ram byte and an absent byte, in this order. -/
theorem witness_FetchStops_ram_before_absent :
    let s : State := { State.reset with
      mem := { map := [{ base := 0x1000, size := 1, kind := .text }, { base := 0x1001, size := 1, kind := .ram }],
               cells := [(0x1000, 0x20)] } }
    let a := s.pc.toNat
    s.mem.kind a = some .text ∧ a + baseLen (s.mem.byte a).toNat ≤ 2 ^ 32 ∧ s.mem.kind (a + 1) = some .ram ∧
      (∀ j < 2, (s.mem.kind (a + j)).isSome = true) ∧ s.mem.kind (a + 2) = none := by decide

/-- ADD at 0x7FFF; its second byte is ram. -/
theorem witness_FetchStops_ram :
    let s := { State.reset with pc := 0x7FFF, mem := State.reset.mem.setBytes 0x7FFF [0x20] }
    let a := s.pc.toNat
    s.mem.kind a = some .text ∧ a + baseLen (s.mem.byte a).toNat ≤ 2 ^ 32 ∧ (∀ j < 1, s.mem.kind (a + j) = some .text) ∧
      s.mem.kind (a + 1) = some .ram ∧ ∀ j < 3, (s.mem.kind (a + j)).isSome = true := by decide

/-- ADDI at 0xFFFFFFFD, whose one extension byte would be at address 2^32. -/
theorem witness_FetchStops_extension_wrap :
    let s := textHere 0xFFFFFFFD [0x20, 0x63, 0x40] []
    let a := s.pc.toNat
    let n := baseLen (s.mem.byte a).toNat
    Fetchable s a n ∧ 2 ^ 32 < a + n + extCount (s.mem.byte a).toNat (leNat (bytesAt s a n)) := by
  unfold Fetchable; decide

/-- ADDI with two extension bytes, the second absent. -/
theorem witness_FetchStops_extension_absent :
    let s := textHere 0x1000 [0x20, 0x63, 0x48, 0x02] []
    let a := s.pc.toNat
    let n := baseLen (s.mem.byte a).toNat
    let e := extCount (s.mem.byte a).toNat (leNat (bytesAt s a n))
    Fetchable s a n ∧ e = 2 ∧ a + n + e ≤ 2 ^ 32 ∧ (∀ j < 1, (s.mem.kind (a + n + j)).isSome = true) ∧
      s.mem.kind (a + n + 1) = none := by unfold Fetchable; decide

/-- ADDI at 0x7FFC with two extension bytes, the first the last text byte, the second ram. -/
theorem witness_FetchStops_extension_ram :
    let s := { State.reset with pc := 0x7FFC, mem := State.reset.mem.setBytes 0x7FFC [0x20, 0x63, 0x48, 0x02] }
    let a := s.pc.toNat
    let n := baseLen (s.mem.byte a).toNat
    let e := extCount (s.mem.byte a).toNat (leNat (bytesAt s a n))
    Fetchable s a n ∧ e = 2 ∧ a + n + e ≤ 2 ^ 32 ∧ (∀ j < 1, s.mem.kind (a + n + j) = some .text) ∧
      s.mem.kind (a + n + 1) = some .ram ∧ ∀ j < e, (s.mem.kind (a + n + j)).isSome = true := by
  unfold Fetchable; decide

/-- The least and the greatest unassigned opcode, and an LDI32 with bit 13 set. -/
theorem witness_IllegalInstructions :
    (Fetchable (machine [0x09] [] []) 0x1000 (baseLen 0x09) ∧ (machine [0x09] [] []).mem.byte 0x1000 = 0x09) ∧
    (Fetchable (machine [0xFF] [] []) 0x1000 (baseLen 0xFF) ∧ (machine [0xFF] [] []).mem.byte 0x1000 = 0xFF) ∧
    Fetchable (machine [0xC8, 0x20] [] []) 0x1000 (baseLen 0xC8) ∧
      ((machine [0xC8, 0x20] [] []).mem.byte 0x1001).getLsbD 5 = true := by unfold Fetchable; decide

/-- Opcode 0x37 with sub-opcode 5; that `subop24 5` is none is left to the parameter, of which nothing can be proved. -/
theorem witness_IllegalInstructions_subop :
    let s := machine [0x37, 0x40, 0x01] [] []
    Fetchable s 0x1000 (baseLen 0x37) ∧ (s.mem.byte 0x1000).toNat = 0x37 ∧
      5 = ((s.mem.byte 0x1001).toNat + 256 * (s.mem.byte 0x1002).toNat) / 2 ^ 6 % 32 := by unfold Fetchable; decide

theorem witness_StepKeepsInv :
    (machine [0x0F, 0x63, 0x08] [] [(1, 0x8000, .u), (3, 0x12345678, .u)]).Inv ∧
      ∃ t, step (machine [0x0F, 0x63, 0x08] [] [(1, 0x8000, .u), (3, 0x12345678, .u)]) = .next t := ⟨by unfold State.Inv; decide, _, rfl⟩

theorem witness_StepKeepsText :
    ∃ t, step (machine [0x0F, 0x63, 0x08] [] [(1, 0x8000, .u), (3, 0x12345678, .u)]) = .next t ∧
      (machine [0x0F, 0x63, 0x08] [] [(1, 0x8000, .u), (3, 0x12345678, .u)]).mem.kind 0x1000 ≠ some .ram := ⟨_, rfl, by decide⟩

theorem witness_OnlyStoresWriteMemory :
    (∃ t, exec (.add 3 1 2) unsigned4 = .next t) ∧ storesMemory (.add 3 1 2) = false ∧ usesPorts (.add 3 1 2) = false :=
  ⟨⟨_, rfl⟩, rfl, rfl⟩

/-- The hypotheses of ArithRegister, Compare and MinMaxTwo: two registers of one type, U or S. -/
theorem witness_two_registers :
    unsigned4.readable [1, 31] = true ∧ signed4.readable [1, 2] = true ∧
    isFloaty .u = false ∧ (unsigned4.rd (unsigned4.npc 3) 1).ty = .u ∧ (unsigned4.rd (unsigned4.npc 3) 31).ty = .u ∧
    isFloaty .s = false ∧ (signed4.rd (signed4.npc 3) 1).ty = .s ∧ (signed4.rd (signed4.npc 3) 2).ty = .s := by decide

/-- The hypotheses of ArithImmediate, and of Compare and MinMaxTwo for their immediate forms. -/
theorem witness_register_immediate :
    unsigned4.readable [1] = true ∧ signed4.readable [1] = true ∧
    (unsigned4.rd (unsigned4.npc (3 + (Imm5.data4 0x80000000).extLen)) 1).ty = .u ∧
    (signed4.rd (signed4.npc (3 + (Imm5.neg 0).extLen)) 1).ty = .s := by decide

/-- The hypotheses of ArithThree and MinMaxThree. -/
theorem witness_three_registers :
    unsigned4.readable [1, 2, 3] = true ∧ signed4.readable [1, 2, 3] = true ∧ signed4.readable [1, 3] = true ∧
    (∀ r ∈ [1, 2, 3], (unsigned4.rd (unsigned4.npc 4) r).ty = .u) ∧ (∀ r ∈ [1, 2, 3], (signed4.rd (signed4.npc 4) r).ty = .s) ∧
    (signed4.rd (signed4.npc (4 + (Imm5.short 7).extLen)) 1).ty = .s ∧
    (signed4.rd (signed4.npc (4 + (Imm5.short 7).extLen)) 3).ty = .s := by decide

theorem witness_ExactArithmetic :
    (3 : RegNum) ≠ 28 ∧ (3 : RegNum) ≠ 31 ∧ unsigned4.readable [1, 2] = true ∧ signed4.readable [1, 2] = true ∧ (unsigned4.rd (unsigned4.npc 3) 1).ty = .u ∧ (unsigned4.rd (unsigned4.npc 3) 2).ty = .u ∧
    (signed4.rd (signed4.npc 3) 1).ty = .s ∧ (signed4.rd (signed4.npc 3) 2).ty = .s := by decide

/-- A float and a Posit beside a number; numbers of two types; a lost R28 beside a number. -/
theorem witness_TypeChecks :
    mixed4.readable [1, 3] = true ∧ mixed4.readable [3, 4] = true ∧ mixed4.readable [1, 2, 3] = true ∧
    lost.readable [1, 28] = false ∧
    (isFloaty (mixed4.rd (mixed4.npc 3) 1).ty || isFloaty (mixed4.rd (mixed4.npc 3) 3).ty) = true ∧
    (isFloaty (mixed4.rd (mixed4.npc 3) 3).ty || isFloaty (mixed4.rd (mixed4.npc 3) 2).ty) = true ∧
    (isFloaty (mixed4.rd (mixed4.npc 3) 3).ty || isFloaty (mixed4.rd (mixed4.npc 3) 4).ty) = false ∧
    (mixed4.rd (mixed4.npc 3) 4).ty ≠ (mixed4.rd (mixed4.npc 3) 3).ty := by decide

/-- Operands that can be read while R28 holds no value, and R28 itself in each position, for the Boolean instructions. -/
theorem witness_BooleanTwo_BooleanThree :
    lost.readable [1, 2] = true ∧ lost.readable [1] = true ∧ lost.readable [1, 2, 3] = true ∧
    lost.readable [28, 2] = false ∧ lost.readable [28] = false ∧ lost.readable [1, 2, 28] = false := by decide

/-- Type U; type S with the dividend -2^31 and a divisor other than -1, and with the divisor -1. -/
theorem witness_Divide :
    unsigned4.readable [1, 2] = true ∧ signed4.readable [1, 3] = true ∧ signed4.readable [4, 2] = true ∧
    valOf .u (unsigned4.rd (unsigned4.npc 3) 2).val ≠ 0 ∧
    (valOf .s (signed4.rd (signed4.npc 3) 1).val = -2 ^ 31 ∧ valOf .s (signed4.rd (signed4.npc 3) 3).val = 1) ∧
    (valOf .s (signed4.rd (signed4.npc 3) 4).val = 2 ^ 31 - 1 ∧ valOf .s (signed4.rd (signed4.npc 3) 2).val = -1) := by decide

/-- The greatest unsigned quotient that fits, and the least signed one. -/
theorem witness_DivideLong :
    let s := withRegs [(1, 1, .u), (2, 0xFFFFFFFF, .u), (3, 0xFFFFFFFE, .u)]
    let t := withRegs [(1, 0x80000000, .s), (2, 1, .s), (3, 0xFFFFFFFF, .s)]
    (valOf .u (s.rd (s.npc 4) 3).val * 2 ^ 32 + (s.rd (s.npc 4) 1).val.toNat).tdiv (valOf .u (s.rd (s.npc 4) 2).val) = 2 ^ 32 - 1 ∧
    (valOf .s (t.rd (t.npc 4) 3).val * 2 ^ 32 + (t.rd (t.npc 4) 1).val.toNat).tdiv (valOf .s (t.rd (t.npc 4) 2).val) = -2 ^ 31 ∧
    s.readable [1, 2, 3] = true ∧ t.readable [1, 2, 3] = true ∧
    (∀ r ∈ [1, 2, 3], (s.rd (s.npc 4) r).ty = .u ∧ (t.rd (t.npc 4) r).ty = .s) := by decide

/-- A zero divisor; -2^31 by -1; an upper half equal to the divisor; zz = 1. -/
theorem witness_DivideStops :
    (unsigned4.rd (unsigned4.npc 3) 4).val = 0 ∧ unsigned4.readable [1, 4] = true ∧ signed4.readable [1, 2] = true ∧
    ((signed4.rd (signed4.npc 3) 1).val = 0x80000000 ∧ (signed4.rd (signed4.npc 3) 2).val = 0xFFFFFFFF) ∧
    immVal (.neg 3) .signed = 0xFFFFFFFF ∧ immVal (.short 0) .unsigned = 0 ∧
    ((unsigned4.rd (unsigned4.npc 4) 2).val ≠ 0 ∧ (unsigned4.rd (unsigned4.npc 4) 2).val ≤ (unsigned4.rd (unsigned4.npc 4) 2).val) ∧
    (1 : BitVec 2) ≠ 0 := by decide

/-- The signed quotients 2^31 and -2^31 - 1, the least in magnitude that do not fit, by a register and by an immediate
divisor of 1; an immediate divisor of 0; an upper half equal to an immediate divisor. -/
theorem witness_DivideStops_long :
    let s := withRegs [(1, 0x80000000, .s), (2, 1, .s), (3, 0, .s)]
    let t := withRegs [(1, 0x7FFFFFFF, .s), (2, 1, .s), (3, 0xFFFFFFFF, .s)]
    (∀ x ∈ [s, t], x.readable [1, 2, 3] = true ∧ (∀ r ∈ [1, 2, 3], (x.rd (x.npc 4) r).ty = .s) ∧
      valOf .s (x.rd (x.npc 4) 2).val = 1 ∧ immVal (.short 1) .signed = 1) ∧
    (valOf .s (s.rd (s.npc 4) 3).val * 2 ^ 32 + (s.rd (s.npc 4) 1).val.toNat).tdiv 1 = 2 ^ 31 ∧
    (valOf .s (t.rd (t.npc 4) 3).val * 2 ^ 32 + (t.rd (t.npc 4) 1).val.toNat).tdiv 1 = -2 ^ 31 - 1 ∧
    immVal (.short 0) .signed = 0 ∧
    (immVal (.short 7) .unsigned ≠ 0 ∧ immVal (.short 7) .unsigned ≤ (unsigned4.rd (unsigned4.npc 4) 2).val) := by decide

theorem witness_DivideIdentity : ∃ t, exec (.div 5 1 3) signed4 = .next t := ⟨_, rfl⟩

theorem witness_DivideUndoesMultiply :
    (5 : RegNum) ≠ 28 ∧ (5 : RegNum) ≠ 31 ∧ (2 : RegNum) ≠ 5 ∧ (unsigned4.rd (unsigned4.npc 3) 1).ty = .u ∧
    (unsigned4.reg 2).ty = .u ∧ (unsigned4.reg 2).val ≠ 0 ∧ ∃ t, exec (.mul 5 1 2) unsigned4 = .next t :=
  ⟨by decide, by decide, by decide, by decide, by decide, by decide, _, rfl⟩

/-- The greatest and the least shift count of each width, and the refused ones beside them. -/
def counts : State :=
  withRegs [(1, 0x89ABCDEF, .s), (2, 31, .u), (3, 0xFFFFFFE1, .s), (4, 63, .u), (5, 0xFFFFFFC1, .s), (6, 32, .u),
    (7, 0xFFFFFFE0, .f), (8, 64, .u), (9, 0xFFFFFFC0, .p)]

theorem witness_ShiftSingle :
    counts.readable [1, 2] = true ∧ counts.readable [1] = true ∧
    isFloaty (counts.rd (counts.npc 3) 1).ty = false ∧ (counts.rd (counts.npc 3) 2).val.toInt = 31 ∧
    (counts.rd (counts.npc 3) 3).val.toInt = -31 ∧ isWide (.neg 0) = false ∧ (immVal (.neg 0) .disp).toInt = -4 := by decide

theorem witness_ShiftDouble :
    counts.readable [1, 4, 2] = true ∧ counts.readable [1, 2] = true ∧
    isFloaty (counts.rd (counts.npc 4) 1).ty = false ∧ isFloaty (counts.rd (counts.npc 4) 2).ty = false ∧
    (counts.rd (counts.npc 4) 4).val.toInt = 63 ∧ (counts.rd (counts.npc 4) 5).val.toInt = -63 ∧
    (immVal (.data1 63) .disp).toInt = 63 := by decide

/-- The counts 32, -32, 64 and -64. -/
theorem witness_ShiftStops :
    (∀ k ∈ [6, 7], |(counts.rd (counts.npc 3) k).val.toInt| = 32) ∧ (∀ k ∈ [8, 9], |(counts.rd (counts.npc 4) k).val.toInt| = 64) ∧
    isFloaty (counts.rd (counts.npc 3) 7).ty = true ∧ (1 : BitVec 2) ≠ 0 ∧ counts.readable [1, 6] = true ∧
    counts.readable [1, 8, 2] = true ∧
    (isFloaty (counts.rd (counts.npc 4) 1).ty || isFloaty (counts.rd (counts.npc 4) 2).ty) = false ∧
    (isFloaty (counts.rd (counts.npc 4) 1).ty || isFloaty (counts.rd (counts.npc 4) 9).ty) = true := by decide

/-- The immediate counts 32, -32, 64 and -64, none of them in the 13-bit form; a lost R28 as the operand and as T. -/
theorem witness_ShiftStops_immediates :
    (immVal (.data1 32) .disp).toInt = 32 ∧ (immVal (.data1 0xE0) .disp).toInt = -32 ∧
    (immVal (.data1 64) .disp).toInt = 64 ∧ (immVal (.data1 0xC0) .disp).toInt = -64 ∧ isWide (.data1 64) = false ∧
    counts.readable [1] = true ∧ counts.readable [1, 2] = true ∧ isFloaty (counts.rd (counts.npc 4) 1).ty = false ∧
    lost.readable [28] = false ∧ lost.readable [1, 28] = false := by decide

/-- The descriptors (1, 32), (0, 33), (33, 32) and (0, 0), a register of 2^12 and the immediate -4. -/
theorem witness_ShiftStops_fields :
    let s := withRegs [(1, 0x89ABCDEF, .s), (2, 0x860, .f), (3, 1, .u), (4, 0x1000, .u), (5, 0x021, .u)]
    (32 : Nat) < (0x060#12).toNat / 64 % 64 + (0x060#12).toNat % 64 ∧ (32 : Nat) < (0x021#12).toNat % 64 ∧
    (64 : Nat) < (0x860#12).toNat / 64 % 64 + (0x860#12).toNat % 64 ∧ (0x000#12).toNat % 64 = 0 ∧
    2 ^ 12 ≤ (immVal (.neg 0) .disp).toNat ∧ 2 ^ 12 ≤ (s.rd (s.npc 4) 4).val.toNat ∧
    (64 : Nat) < (s.rd (s.npc 4) 2).val.toNat / 64 % 64 + (s.rd (s.npc 4) 2).val.toNat % 64 ∧
    (32 : Nat) < (s.rd (s.npc 4) 5).val.toNat % 64 ∧
    s.readable [1, 2, 3] = true ∧ s.readable [1, 4] = true ∧ s.readable [1, 3] = true ∧ s.readable [1] = true ∧
    (isFloaty (s.rd (s.npc 4) 1).ty || isFloaty (s.rd (s.npc 4) 3).ty) = false := by decide

/-- Descriptors: the whole word, its last bit, the upper half of a pair, and the refused ones 2^12, 0 and (1, 32). -/
theorem witness_Extract :
    let s := withRegs [(1, 0x89ABCDEF, .s), (2, 0x020, .u), (3, 0x7C1, .u), (4, 0x820, .f), (5, 0x1000, .u), (6, 0x060, .u)]
    (∀ r ∈ [2, 3], (s.rd (s.npc 3) r).val.toNat < 2 ^ 12 ∧ (s.rd (s.npc 3) r).val.toNat % 64 ≠ 0 ∧
      (s.rd (s.npc 3) r).val.toNat / 64 + (s.rd (s.npc 3) r).val.toNat % 64 = 32) ∧
    ((s.rd (s.npc 4) 4).val.toNat < 2 ^ 12 ∧ (s.rd (s.npc 4) 4).val.toNat % 64 = 32 ∧
      (s.rd (s.npc 4) 4).val.toNat / 64 + (s.rd (s.npc 4) 4).val.toNat % 64 = 64) ∧
    s.readable [1, 2] = true ∧ s.readable [1, 4, 3] = true ∧ s.readable [1] = true ∧ s.readable [1, 3] = true ∧
    (s.rd (s.npc 3) 5).val.toNat = 2 ^ 12 ∧
    (s.rd (s.npc 3) 6).val.toNat / 64 % 64 + (s.rd (s.npc 3) 6).val.toNat % 64 = 33 := by decide

/-- The 13-bit immediates (8, 4), (31, 1), (63, 1) and (32, 32), and a short one: what they say of a field. -/
theorem witness_Extract_immediates :
    (∀ v ∈ [0x204#12, 0x7C1#12, 0xFC1#12, 0x820#12], v.toNat < 2 ^ 12 ∧ v.toNat % 64 ≠ 0 ∧ v.toNat % 64 ≤ 32 ∧
      v.toNat / 64 + v.toNat % 64 ≤ 64) ∧
    (0x7C1#12).toNat / 64 + (0x7C1#12).toNat % 64 = 32 ∧ (0x820#12).toNat / 64 = 32 ∧
    (immVal (.short 5) .disp).toNat = 5 := by decide

/-- The widest field and the last bit. -/
theorem witness_Insert :
    let s := withRegs [(1, 0xF, .u), (2, 0x020, .u), (3, 0xAAAAAAAA, .u), (4, 0x7C1, .u)]
    isFloaty (s.rd (s.npc 4) 1).ty = false ∧ isFloaty (s.rd (s.npc 4) 3).ty = false ∧
    s.readable [1, 2, 3] = true ∧ s.readable [1, 3] = true ∧
    ∀ r ∈ [2, 4], (s.rd (s.npc 4) r).val.toNat < 2 ^ 12 ∧ (s.rd (s.npc 4) r).val.toNat % 64 ≠ 0 ∧
      (s.rd (s.npc 4) r).val.toNat / 64 + (s.rd (s.npc 4) r).val.toNat % 64 = 32 := by decide

theorem witness_RotateInverse :
    ∃ t, exec (.ror 10 1 2) counts = .next t ∧ t.readable [3] = true ∧ (t.rd (t.npc 3) 3).val = -(counts.rd (counts.npc 3) 2).val :=
  ⟨_, rfl, by decide, by decide⟩

theorem witness_ExtractInserted :
    ∃ t, exec (.insrt 4 1 2 3 0 false) (withRegs [(1, 0xF, .u), (2, 0x204, .u), (3, 0xAAAAAAAA, .u)]) = .next t := ⟨_, rfl⟩

/-- A load of four bytes across the end of the address space, and for the 32-bit forms one byte at its end. -/
theorem witness_LoadShort_LoadLong :
    let s := withRegs [(1, 0xFFFFFFFE, .u), (2, 0xFFFFFFFF, .u)]
    s.readable [0] = true ∧ s.readable [2, 2] = true ∧ s.readable [2] = true ∧ Held s (s.rdBase (s.npc 3) 1 + s.rdIndex (s.npc 3) 0 * BitVec.ofNat 32 4) 4 ∧
    Held s (s.rdBase (s.npc 3) 1 + immVal (.short 1) .disp) 4 ∧
    Held s (s.rdBase (s.npc 4) 1 + s.rdIndex (s.npc 4) 2 * BitVec.ofNat 32 ((3 + 1) * 1) + (s.rd (s.npc 4) 2).val) 1 := by
  unfold Held; decide

/-- The first byte not held is the first, and the last, of four; a lost R28 as index and as offset. -/
theorem witness_LoadStops :
    let s := onlyRam 0x8000 8 [(1, 0x8005, .u), (2, 0x8008, .u)]
    s.readable [0] = true ∧ s.readable [2, 0] = true ∧ lost.readable [28] = false ∧ lost.readable [28, 1] = false ∧
    ((∀ j < 3, (s.mem.kind (eaOffset s (s.npc 3) 1 (.short 0) + BitVec.ofNat 32 j).toNat).isSome = true) ∧
      s.mem.kind (eaOffset s (s.npc 3) 1 (.short 0) + BitVec.ofNat 32 3).toNat = none) ∧
    s.mem.kind (eaOffset s (s.npc 3) 2 (.short 0) + BitVec.ofNat 32 0).toNat = none := by decide

/-- A store of four bytes across the end of the address space, all of them ram: every form, by its effective address. -/
theorem witness_StoreShort_StoreLong_StoreImmediate :
    let s := withRegs [(1, 0xFFFFFFFE, .u), (2, 0, .u), (3, 0x12345678, .u)]
    s.readable [3, 2] = true ∧ s.readable [3] = true ∧ s.readable [2, 3, 2] = true ∧ s.readable [2, 2] = true ∧
    s.Inv ∧ Ram s (eaIndex s (s.npc 3) 1 2 4) 4 ∧ Ram s (eaOffset s (s.npc 3) 1 (.short 0)) 4 ∧
    Ram s (eaIndexReg s (s.npc 4) 1 2 2 (scaleY 3 * 4)) 4 ∧ Ram s (eaIndexImm s (s.npc 4) 1 2 (.short 0) (scaleY 3 * 4)) 4 := by
  unfold State.Inv Ram; decide

/-- The first byte not held is the last of four; the first text byte is the third of four held ones. -/
theorem witness_StoreStops :
    let s := onlyRam 0x8000 8 [(1, 0x8005, .u)]
    let t := withRegs [(1, 0x0FFE, .u)]
    s.readable [2] = true ∧ t.readable [2] = true ∧ lost.readable [28] = false ∧ lost.readable [1, 28] = false ∧
    ((∀ i < 3, (s.mem.kind (eaOffset s (s.npc 3) 1 (.short 0) + BitVec.ofNat 32 i).toNat).isSome = true) ∧
      s.mem.kind (eaOffset s (s.npc 3) 1 (.short 0) + BitVec.ofNat 32 3).toNat = none) ∧
    Held t (eaOffset t (t.npc 3) 1 (.short 0)) 4 ∧
    (∀ i < 2, t.mem.kind (eaOffset t (t.npc 3) 1 (.short 0) + BitVec.ofNat 32 i).toNat = some .ram) ∧
    t.mem.kind (eaOffset t (t.npc 3) 1 (.short 0) + BitVec.ofNat 32 2).toNat = some .text := by unfold Held; decide

theorem witness_LoadAfterStore :
    (withRegs [(1, 0x8001, .u), (3, 0x12345678, .s)]).Inv ∧
      ∃ t, exec (.st32Dbn 3 1 (.short 5)) (withRegs [(1, 0x8001, .u), (3, 0x12345678, .s)]) = .next t :=
  ⟨by unfold State.Inv; decide, _, rfl⟩

/-- Types U and S; a condition that holds of one reading and not of the other. -/
theorem witness_ConditionalBranch :
    unsigned4.readable [3] = true ∧ signed4.readable [2] = true ∧
    (unsigned4.rd (unsigned4.npc 3) 3).ty = .u ∧ (signed4.rd (signed4.npc 3) 2).ty = .s ∧
    isFloaty (signed4.rd (signed4.npc 3) 2).ty = false := by decide

theorem witness_BranchComplement :
    (∃ t, exec (.brlez24 2 0x80) signed4 = .next t) ∧ (∃ t, exec (.brgz24 2 0x80) signed4 = .next t) ∧
      mixed4.readable [1] = true ∧ isFloaty (mixed4.rd (mixed4.npc 3) 1).ty = true ∧ lost.readable [28] = false :=
  ⟨⟨_, rfl⟩, ⟨_, rfl⟩, by decide, by decide, by decide⟩

theorem witness_BranchComplement_long :
    (∃ t, exec (.brlz32 2 0x8000) signed4 = .next t) ∧ (∃ t, exec (.brgez32 2 0x8000) signed4 = .next t) ∧
      mixed4.readable [2] = true ∧ isFloaty (mixed4.rd (mixed4.npc 4) 2).ty = true :=
  ⟨⟨_, rfl⟩, ⟨_, rfl⟩, by decide, by decide⟩

/-- Under either value of `bbs_roles`: a register that can be read, and R28 in both fields while it holds no value. -/
theorem witness_BitBranch :
    lost.readable [match Config.bbsRoles with | .regDBitR => 1 | .regRBitD => 2] = true ∧
    lost.readable [match Config.bbsRoles with | .regDBitR => 28 | .regRBitD => 28] = false := by
  cases Config.bbsRoles <;> decide

/-- The hypotheses of Call and LoadAddress: index and offset registers that can be read, R28 in the base position not among
them. -/
theorem witness_Call_LoadAddress : lost.readable [1] = true ∧ lost.readable [2, 1] = true := by decide

/-- The last address from which each of the two completes, and the next one. -/
theorem witness_AlignPc :
    stops (exec .nxth (textHere 0xFFFFFFFE [2] [])) (.fault .fetchWrap) = true ∧
    gives (exec .nxth (textHere 0xFFFFFFFD [2] [])) 0xFFFFFFFE [] = true ∧
    stops (exec .nxtw (textHere 0xFFFFFFFC [3] [])) (.fault .fetchWrap) = true ∧
    gives (exec .nxtw (textHere 0xFFFFFFFB [3] [])) 0xFFFFFFFC [] = true := by decide

theorem witness_Trap_Break :
    State.reset.mem.kind State.reset.pc.toNat = some .text ∧ State.reset.mem.byte State.reset.pc.toNat = 0 ∧
    (machine [1] [] []).mem.byte 0x1000 = 1 := by decide

/-- The hypotheses of SingleArith, SingleCount and SingleMove. -/
theorem witness_single_operand :
    signed4.readable [1] = true ∧ unsigned4.readable [3] = true ∧ signed4.readable [4] = true ∧
    isFloaty (signed4.rd (signed4.npc 3) 1).ty = false ∧ isFloaty (unsigned4.rd (unsigned4.npc 3) 3).ty = false ∧
    0 ≤ valOf .u (unsigned4.rd (unsigned4.npc 3) 3).val ∧ 0 ≤ valOf .s (signed4.rd (signed4.npc 3) 4).val := by decide

/-- The hypotheses of Ports. -/
theorem witness_Ports : lost.readable [1] = true ∧ lost.readable [1, 2] = true := by decide

theorem witness_SingleStops :
    mixed4.readable [1] = true ∧ mixed4.readable [2] = true ∧ signed4.readable [1] = true ∧
    lost.readable [28] = false ∧ lost.readable [1, 28] = false ∧ lost.readable [28, 1] = false ∧
    isFloaty (mixed4.rd (mixed4.npc 3) 1).ty = true ∧ isFloaty (mixed4.rd (mixed4.npc 3) 2).ty = true ∧
    (signed4.rd (signed4.npc 3) 1).ty = .s ∧ (signed4.rd (signed4.npc 3) 1).val.msb = true := by decide

end Sys2Proof.Tests
end

section
/-!
The lengthening function (10_state.md R37): one equation per reading of a datum, for every width, and the statement
made of them.
-/
namespace Sys2Proof.Machine

variable {w : Nat}

@[simp] theorem lengthen_signed (v : BitVec w) : lengthen .s v = v.signExtend 32 :=
  if_pos rfl

theorem lengthen_of_ne_signed {ty : TyCode} (h : ty ≠ .s) (v : BitVec w) : lengthen ty v = v.setWidth 32 :=
  if_neg h

/-- At the width of a register both readings are the identity. -/
@[simp] theorem lengthen_word (ty : TyCode) (v : BitVec 32) : lengthen ty v = v := by
  by_cases h : ty = .s
  · rw [h, lengthen_signed, BitVec.signExtend_eq]
  · rw [lengthen_of_ne_signed h, BitVec.setWidth_eq]

end Sys2Proof.Machine

namespace Sys2Proof.Proofs.Datum

open Sys2Proof.Machine

/-- Settles O36: the widths play no part until 32 bits, so the equations by type, which hold of every width, give the
first part for each `k`. -/
theorem lengthen : Obligations.Lengthen := by
  unfold Obligations.Lengthen
  refine ⟨fun k _ v => ?upToFourBytes, lengthen_word⟩
  have zeroExtended : ∀ ty ≠ TyCode.s, Machine.lengthen ty v = v.setWidth 32 := fun _ h => lengthen_of_ne_signed h v
  exact ⟨zeroExtended .u nofun, lengthen_signed v, zeroExtended .f nofun, zeroExtended .p nofun⟩

end Sys2Proof.Proofs.Datum
end

section
/-!
The instructions by length (30_encoding.md R90, R94): what the decoder makes of an opcode whose six top bits are 0, how
short every other instruction can be, and the statement made of the two.
-/
namespace Sys2Proof

/-- R90: where the six top bits of the opcode are 0, the base is the opcode byte. -/
theorem baseLen_of_lt_four {op : Nat} (h : op < 4) : baseLen op = 1 :=
  if_pos h

/-- That byte is then the whole word, and none of the bytes after it is part of it. -/
theorem decode_cons_of_lt_four {op : Byte} (h : op.toNat < 4) (rest : List Byte) :
    decode (op :: rest) = decodeWord op.toNat op.toNat rest := by
  simp [decode, baseLen_of_lt_four h, leNat]

theorem Disp.three_le_length (n : Disp) : 3 ≤ n.length := by
  cases n with
  | d16 => exact Nat.le_refl 3
  | d24 => exact Nat.le_succ 3

/-- R95, R97 and R98: the base of every other format has at least three bytes, and extension bytes only add to it. -/
theorem three_le_instrLength {i : Instr} (hwf : WellFormed i = true) (hi : i ∉ [.trap, .brk, .nxth, .nxtw]) :
    3 ≤ instrLength i := by
  cases i
  case trap | brk | nxth | nxtw => exact absurd (by decide) hi
  case cvt | lnp1 | ln | logp1 | log | expm1 | exp | exp10m1 | exp10 | sin | cos | tan | asin | acos | atan | movi | merg |
      eadd | mv2 | shl => exact absurd hwf Bool.false_ne_true
  case br n | callr n => exact n.three_le_length
  all_goals simp +arith only [instrLength]

theorem instrLength_eq_one_iff {i : Instr} (hwf : WellFormed i = true) :
    instrLength i = 1 ↔ i ∈ [.trap, .brk, .nxth, .nxtw] := by
  constructor
  · intro hlen
    by_contra hi
    have hle := three_le_instrLength hwf hi
    omega
  · have lengths : ∀ i ∈ [Instr.trap, .brk, .nxth, .nxtw], instrLength i = 1 := by decide
    exact lengths i

end Sys2Proof

namespace Sys2Proof.Proofs.Encoding

/-- Settles O4: the lengths are `instrLength_eq_one_iff`, and the decoder reads each of the four opcodes without looking
at what follows. -/
theorem oneByteInstructions : Obligations.OneByteInstructions := by
  unfold Obligations.OneByteInstructions
  refine ⟨fun _ => instrLength_eq_one_iff, List.forall_iff_forall_mem.mp ⟨?trap, ?brk, ?nxth, ?nxtw⟩⟩
  case trap => exact ⟨0x00, rfl, by decide, decode_cons_of_lt_four (by decide)⟩
  case brk => exact ⟨0x01, rfl, by decide, decode_cons_of_lt_four (by decide)⟩
  case nxth => exact ⟨0x02, rfl, by decide, decode_cons_of_lt_four (by decide)⟩
  case nxtw => exact ⟨0x03, rfl, by decide, decode_cons_of_lt_four (by decide)⟩

end Sys2Proof.Proofs.Encoding
end

section
/-!
The control family (45_control.md): the byte a word begins with (30_encoding.md R91), the bytes and the jump of BR, the
step at a one-byte opcode (R92, R94), and the statements made of them.
-/
namespace Sys2Proof

/-! ## The bytes of a word -/

/-- R91: the first byte is the low byte of the word. -/
theorem leBytes_head? (k : Nat) {w op : Nat} (h : w % 2 ^ 8 = op % 2 ^ 8) :
    (leBytes (k + 1) w).head? = some (BitVec.ofNat 8 op) :=
  congrArg some (BitVec.eq_of_toNat_eq (by rw [BitVec.toNat_ofNat, BitVec.toNat_ofNat, h]))

/-- In a word of the opcode and one field that byte is the opcode. -/
theorem leBytes_head?_field (k n op : Nat) : (leBytes (k + 1) (n * 2 ^ 8 + op)).head? = some (BitVec.ofNat 8 op) :=
  leBytes_head? k (Nat.mul_add_mod_self_right n (2 ^ 8) op)

/-- R95: in the 24-bit layout the low byte is the opcode, whatever the fields hold. -/
theorem word24_mod (s r i d op : Nat) : word24 s r i d op % 2 ^ 8 = op % 2 ^ 8 := by
  rw [word24]
  omega

/-- A word of the opcode and one field: the opcode byte, then the bytes of the field. -/
theorem leBytes_opcode (k n : Nat) (op : Byte) :
    leBytes (k + 1) (n * 2 ^ 8 + op.toNat) = op :: leBytes k n := by
  have hop : op.toNat < 256 := op.isLt
  have hfield : (n * 2 ^ 8 + op.toNat) / 256 = n := by omega
  have hbyte : BitVec.ofNat 8 (n * 2 ^ 8 + op.toNat) = op := by
    apply BitVec.eq_of_toNat_eq
    rw [BitVec.toNat_ofNat]
    omega
  rw [leBytes, hfield, hbyte]

/-- Byte `i` of a number is its digit at `256 ^ i`. -/
theorem leBytes_eq_map (k n : Nat) : leBytes k n = (List.range k).map fun i => BitVec.ofNat 8 (n / 256 ^ i) := by
  induction k generalizing n with
  | zero => rfl
  | succ k ih => simp [leBytes, ih, List.range_succ_eq_map, Nat.div_div_eq_div_mul, Nat.pow_succ']

/-- Byte `i` of a field is its bits from `8 * i` up. -/
theorem leBytes_toNat {w : Nat} (k : Nat) (n : BitVec w) :
    leBytes k n.toNat = (List.range k).map fun i => n.extractLsb' (8 * i) 8 := by
  rw [leBytes_eq_map]
  refine List.map_congr_left fun i _ => BitVec.eq_of_toNat_eq ?_
  rw [BitVec.toNat_ofNat, BitVec.extractLsb'_toNat, Nat.shiftRight_eq_div_pow, Nat.pow_mul]

/-! ## The encoding and the range of BR (45_control.md R265) -/

theorem encode_br_d16 (n : BitVec 16) :
    encode (.br (.d16 n)) = [0x04, n.extractLsb' 0 8, n.extractLsb' 8 8] :=
  calc encode (.br (.d16 n))
    _ = 0x04 :: leBytes 2 n.toNat := leBytes_opcode 2 n.toNat 0x04
    _ = _ := by rw [leBytes_toNat]; rfl

theorem encode_br_d24 (n : BitVec 24) :
    encode (.br (.d24 n)) = [0x44, n.extractLsb' 0 8, n.extractLsb' 8 8, n.extractLsb' 16 8] :=
  calc encode (.br (.d24 n))
    _ = leBytes 4 (n.toNat * 2 ^ 8 + (0x44 : Byte).toNat) := congrArg (leBytes 4) (Nat.add_assoc _ 0x40 0x04)
    _ = 0x44 :: leBytes 3 n.toNat := leBytes_opcode 3 n.toNat 0x44
    _ = _ := by rw [leBytes_toNat]; rfl

/-- Sign extension keeps the value, so a field of `w` bits reaches as far as a signed number of `w` bits. -/
theorem signExtend_range {w : Nat} (hw : w ≤ 32) (n : BitVec w) :
    -2 ^ (w - 1) ≤ (n.signExtend 32).toInt ∧ (n.signExtend 32).toInt ≤ 2 ^ (w - 1) - 1 := by
  rw [BitVec.toInt_signExtend_of_le hw]
  exact ⟨BitVec.le_toInt n, Int.le_sub_one_of_lt BitVec.toInt_lt⟩

/-! ## One-byte opcodes (R94) -/

/-- R94: a one-byte opcode announces no extension bytes. -/
theorem extCount_of_lt_four {op : Nat} (h : op < 4) (w : Nat) : extCount op w = 0 := by
  interval_cases op <;> rfl

theorem decode_trap (rest : List Byte) : decode (0x00 :: rest) = .ok .trap := decode_cons_of_lt_four (by decide) rest

theorem decode_brk (rest : List Byte) : decode (0x01 :: rest) = .ok .brk := decode_cons_of_lt_four (by decide) rest

namespace Machine

/-! ## The jump of BR (45_control.md R265) -/

/-- Moving the pc alone is a jump: R0 to R30 lie in another field. -/
theorem State.jumps_pc (s : State) (a : Word) : Jumps s { s with pc := a } a where
  pc := rfl
  lost := rfl
  regs i hi _ := State.reg_mk s a _ _ _ _ i hi
  memory := ⟨fun _ => rfl, fun _ => rfl⟩
  events := rfl
  draws := rfl

theorem exec_br (n : Disp) (s : State) :
    exec (.br n) s = .next { s with pc := s.npc n.length + dispVal n } := rfl

theorem exec_br_jumps (n : Disp) (s : State) :
    ∃ t, exec (.br n) s = .next t ∧ Jumps s t (s.npc n.length + dispVal n) :=
  ⟨_, exec_br n s, s.jumps_pc _⟩

/-- A branch back over its own bytes stays where it is. -/
theorem exec_br_pc_eq_self {n : Disp} {s t : State} (hback : BitVec.ofNat 32 n.length + dispVal n = 0)
    (h : exec (.br n) s = .next t) : t.pc = s.pc := by
  obtain ⟨u, hu, hjump⟩ := exec_br_jumps n s
  obtain rfl : t = u := by simpa [h] using hu
  rw [hjump.pc, State.npc, BitVec.add_assoc, hback]
  exact BitVec.add_zero s.pc

/-! ## TRAP, BRK and the step at a one-byte opcode (45_control.md R261, R264; 30_encoding.md R92) -/

theorem exec_trap (s : State) : exec .trap s = .fault (.trap .illegalInstruction) := rfl

theorem exec_brk (s : State) : exec .brk s = .fault (.trap .breakpoint) := rfl

/-- Where the opcode is one of the four, the fetch asks for no byte but the opcode itself. -/
theorem fetch_of_lt_four {s : State} (htext : s.mem.kind s.pc.toNat = some .text)
    (hop : (s.mem.byte s.pc.toNat).toNat < 4) : fetch s = .ok [s.mem.byte s.pc.toNat] := by
  have hpc : s.pc.toNat + 1 ≤ 2 ^ 32 := s.pc.isLt
  have hopcode : fetchBytes s.mem s.pc.toNat 1 = .ok [s.mem.byte s.pc.toNat] :=
    fetchBytes_of_text s.mem s.pc.toNat 1 hpc fun k hk => by rwa [Nat.lt_one_iff.mp hk]
  have hnone : fetchBytes s.mem (s.pc.toNat + 1) 0 = .ok [] :=
    fetchBytes_of_text s.mem _ 0 hpc nofun
  simp [fetch, hopcode, leNat, baseLen_of_lt_four hop, extCount_of_lt_four hop, hnone, bind, Except.bind, pure,
    Except.pure]

/-- The step at a one-byte opcode in text runs that instruction, whatever bytes follow and wherever text ends. -/
theorem step_of_lt_four {s : State} {op : Byte} {i : Instr} (hop : op.toNat < 4) (hdecode : decode [op] = .ok i)
    (htext : s.mem.kind s.pc.toNat = some .text) (hbyte : s.mem.byte s.pc.toNat = op) : step s = exec i s := by
  subst hbyte
  simp only [step, fetch_of_lt_four htext hop, hdecode]

end Machine

end Sys2Proof

namespace Sys2Proof.Proofs

open Sys2Proof.Machine

/-- Settles O50: the encoding and the outcome are TRAP's own equations, and zeroed text holds its byte. -/
theorem Control.trap : Obligations.Trap := by
  unfold Obligations.Trap
  refine ⟨rfl, decode_trap, exec_trap, fun s htext hbyte => ?zeroedText⟩
  rw [step_of_lt_four (by decide) (decode_trap []) htext hbyte, exec_trap]

/-- Settles O51: the step at the byte 0x01 asks nothing of the bytes after it, so BRK may stand in place of the first
byte of a longer instruction. -/
theorem Control.break : Obligations.Break := by
  unfold Obligations.Break
  refine ⟨rfl, decode_brk, exec_brk, fun s htext hbyte => ?replaced⟩
  rw [step_of_lt_four (by decide) (decode_brk []) htext hbyte, exec_brk]

/-- Settles O44: one lemma over both displacements for the jump, one over every width for the range; the last two
worked words branch back by their own length. -/
theorem Control.branch : Obligations.Branch := by
  unfold Obligations.Branch
  refine ⟨fun n s => ⟨encode_br_d16 n, exec_br_jumps (.d16 n) s, signExtend_range (by decide) n⟩,
    fun n s => ⟨encode_br_d24 n, exec_br_jumps (.d24 n) s, signExtend_range (by decide) n⟩,
    rfl, rfl, rfl, rfl, fun s => ⟨fun t => ?back16, fun t => ?back24⟩⟩
  case back16 => exact exec_br_pc_eq_self (by decide)
  case back24 => exact exec_br_pc_eq_self (by decide)

/-- Settles O59: every refusal is the whole meaning of its instruction, and the opcode is the low byte of each word,
whatever stands in the fields above it. -/
theorem Control.foreignRefused : Obligations.ForeignRefused := by
  unfold Obligations.ForeignRefused
  refine ⟨fun d r rs f s => ⟨rfl, leBytes_head? 2 (word24_mod rs r 0 d 0x33), rfl,
      leBytes_head? 2 (word24_mod f.toNat r 1 d 0x33)⟩,
    fun f s => ⟨rfl, leBytes_head?_field 2 f.toNat 0x0B⟩, fun d n s => ⟨rfl, leBytes_head? 2 (op := 0x32) ?vect⟩,
    List.forall_iff_forall_mem.mp ⟨?pcb1, ?pcnd, ?mmov, ?ldm, ?stm, ?tt⟩⟩
  case vect => omega
  case pcb1 => exact fun f _ => ⟨rfl, leBytes_head?_field 3 f.toNat 0x7C⟩
  case pcnd => exact fun f _ => ⟨rfl, leBytes_head?_field 3 f.toNat 0x7B⟩
  case mmov => exact fun f _ => ⟨rfl, leBytes_head?_field 3 f.toNat 0x7A⟩
  case ldm => exact fun f _ => ⟨rfl, leBytes_head?_field 3 f.toNat 0x7E⟩
  case stm => exact fun f _ => ⟨rfl, leBytes_head?_field 3 f.toNat 0x7D⟩
  case tt => exact fun f _ => ⟨rfl, leBytes_head?_field 3 f.toNat 0x7F⟩

end Sys2Proof.Proofs
end

section
/-!
The words of instructions (30_encoding.md sections 1 to 4): bytes and the number they stand for, the fields of the two
base layouts, and the immediate field with its extension bytes. Each encoding is paired with its reading, in both orders.
-/
namespace Sys2Proof

/-! ## Bytes and numbers (R91) -/

theorem leNat_leBytes (k w : Nat) : leNat (leBytes k w) = w % 256 ^ k := by
  induction k generalizing w with
  | zero => simp [leBytes, leNat, Nat.mod_one]
  | succ k ih =>
    have hdigits : w % 256 ^ (k + 1) = w % 256 + 256 * (w / 256 % 256 ^ k) := by rw [Nat.pow_succ', Nat.mod_mul]
    rw [leBytes, leNat, ih, hdigits, BitVec.toNat_ofNat]

theorem leBytes_leNat (bs : List Byte) : leBytes bs.length (leNat bs) = bs := by
  induction bs with
  | nil => rfl
  | cons b bs ih =>
    have hb : b.toNat < 256 := b.isLt
    have hrest : (b.toNat + 256 * leNat bs) / 256 = leNat bs := by omega
    have hbyte : BitVec.ofNat 8 (b.toNat + 256 * leNat bs) = b := by
      apply BitVec.eq_of_toNat_eq
      rw [BitVec.toNat_ofNat]
      omega
    rw [List.length_cons, leBytes, leNat, hrest, hbyte, ih]

theorem leNat_lt (bs : List Byte) : leNat bs < 256 ^ bs.length := by
  rw [← leBytes_leNat bs, leNat_leBytes, leBytes_length]
  exact Nat.mod_lt _ (by positivity)

theorem leNat_cons_mod (b : Byte) (bs : List Byte) : leNat (b :: bs) % 256 = b.toNat := by
  have hb : b.toNat < 256 := b.isLt
  rw [leNat]
  omega

theorem baseLen_pos (op : Nat) : 0 < baseLen op := by
  unfold baseLen
  split_ifs <;> decide

/-- The base length of a format -/
def Format.len : Format → Nat
  | .n8 => 1
  | .n24 | .bb | .dcn24 | .dan8 | .raw16 | .dbjn24 | .drsn | .loop | .dn | .ds => 3
  | .n32 | .dcn32 | .dan16 | .raw24 | .mem32 | .store32 | .drstn => 4
  | .dan24 => 5
  | .dan32 => 6

theorem formatOf_some {op : Nat} {f : Format} (h : formatOf op = some f) : op < 256 ∧ baseLen op = f.len := by
  unfold formatOf at h
  split at h <;> cases h <;> decide

theorem decode_leBytes {k w : Nat} (hk : baseLen (w % 256) = k) (hw : w < 256 ^ k) (ext : List Byte) :
    decode (leBytes k w ++ ext) = decodeWord (w % 256) w ext := by
  obtain ⟨j, rfl⟩ : ∃ j, k = j + 1 := Nat.exists_eq_succ_of_ne_zero (hk ▸ (baseLen_pos _).ne')
  have hop : (BitVec.ofNat 8 w).toNat = w % 256 := BitVec.toNat_ofNat w 8
  have hword : leNat (leBytes (j + 1) w) = w := by rw [leNat_leBytes, Nat.mod_eq_of_lt hw]
  rw [leBytes] at hword ⊢
  simp [decode, hop, hk, hword, List.take_left']

/-! ## Fields of a word -/

theorem regField_eq {w lo : Nat} {r : RegNum} (h : w / 2 ^ lo % 32 = r) : regField w lo = r :=
  Fin.ext h

theorem bitField_eq {w lo : Nat} {b : Bool} (h : w / 2 ^ lo % 2 = b.toNat) : bitField w lo = b := by
  cases b <;> simp_all [bitField]

theorem ofNat_eq {w : Nat} (x : BitVec w) (n : Nat) (h : n % 2 ^ w = x.toNat) : BitVec.ofNat w n = x :=
  BitVec.eq_of_toNat_eq (by rw [BitVec.toNat_ofNat, h])

/-- The fields of a base of the 24-bit layout (R95). -/
structure Word24Fields (w s r i d op : Nat) : Prop where
  s : w / 2 ^ 19 % 32 = s
  r : w / 2 ^ 14 % 32 = r
  i : w / 2 ^ 13 % 2 = i
  d : w / 2 ^ 8 % 32 = d
  op : w % 256 = op

/-- The fields of a base of the 32-bit layout above the 24-bit layout (R97). -/
structure Word32Fields (w t zz u : Nat) : Prop where
  t : w / 2 ^ 27 % 32 = t
  zz : w / 2 ^ 25 % 2 ^ 2 = zz
  u : w / 2 ^ 24 % 2 = u

variable {s r i d op t zz u : Nat}

theorem word24_lt (hs : s < 32) (hr : r < 32) (hi : i < 2) (hd : d < 32) (hop : op < 256) :
    word24 s r i d op < 256 ^ 3 := by
  rw [word24]
  omega

theorem word24_fields (hs : s < 32) (hr : r < 32) (hi : i < 2) (hd : d < 32) (hop : op < 256) :
    Word24Fields (word24 s r i d op) s r i d op := by
  constructor <;> rw [word24] <;> omega

theorem word32_lt (ht : t < 32) (hzz : zz < 4) (hu : u < 2) (h24 : word24 s r i d op < 256 ^ 3) :
    word32 t zz u s r i d op < 256 ^ 4 := by
  rw [word32]
  omega

theorem word32_fields (ht : t < 32) (hzz : zz < 4) (hu : u < 2) (h24 : word24 s r i d op < 256 ^ 3) :
    Word32Fields (word32 t zz u s r i d op) t zz u := by
  constructor <;> rw [word32] <;> omega

theorem word32_fields24 (h : Word24Fields (word24 s r i d op) s r i d op) :
    Word24Fields (word32 t zz u s r i d op) s r i d op := by
  obtain ⟨hs, hr, hi, hd, hop⟩ := h
  constructor <;> rw [word32] <;> omega

theorem word24_of_fields (w : Nat) (hw : w < 256 ^ 3) :
    word24 (w / 2 ^ 19 % 32) (w / 2 ^ 14 % 32) (w / 2 ^ 13 % 2) (w / 2 ^ 8 % 32) (w % 256) = w := by
  rw [word24]
  omega

theorem word32_of_fields (w : Nat) (hw : w < 256 ^ 4) :
    word32 (w / 2 ^ 27 % 32) (w / 2 ^ 25 % 4) (w / 2 ^ 24 % 2) (w / 2 ^ 19 % 32) (w / 2 ^ 14 % 32) (w / 2 ^ 13 % 2)
      (w / 2 ^ 8 % 32) (w % 256) = w := by
  rw [word32, word24]
  omega

/-! ## The immediate field (R100) -/

theorem takeLE_leBytes {k v : Nat} (h : v < 256 ^ k) (rest : List Byte) : takeLE k (leBytes k v ++ rest) = some v := by
  simp [takeLE, leNat_leBytes, List.take_left', Nat.mod_eq_of_lt h]

/-- Where the bytes are there, they are those of the number read. -/
theorem leBytes_of_takeLE {k v : Nat} {ext : List Byte} (h : takeLE k ext = some v) :
    k ≤ ext.length ∧ v < 256 ^ k ∧ leBytes k v = ext.take k := by
  unfold takeLE at h
  split at h
  case isTrue => cases h
  case isFalse hlen =>
    have hk : (ext.take k).length = k := List.length_take_of_le (Nat.le_of_not_lt hlen)
    obtain rfl := Option.some.inj h
    have hlt := leNat_lt (ext.take k)
    have hbytes := leBytes_leNat (ext.take k)
    rw [hk] at hlt hbytes
    exact ⟨Nat.le_of_not_lt hlen, hlt, hbytes⟩

/-- Of a number only the low `k` bytes are looked at. -/
theorem leBytes_mod (k v : Nat) : leBytes k (v % 256 ^ k) = leBytes k v := by
  have h := leBytes_leNat (leBytes k v)
  rwa [leNat_leBytes, leBytes_length] at h

theorem Imm5.field_lt (n : Imm5) : n.field < 32 := by
  cases n <;> simp only [Imm5.field] <;> omega

theorem decodeImm_short {f : Nat} (h : f < 8) (ext : List Byte) : decodeImm f ext = some (.short (BitVec.ofNat 3 f)) :=
  if_pos h

theorem decodeImm_neg {f : Nat} (h : 12 ≤ f) (h' : f < 16) (ext : List Byte) :
    decodeImm f ext = some (.neg (BitVec.ofNat 2 (f - 12))) := by
  rw [decodeImm, if_neg (by omega), if_neg (by omega), if_neg (by omega), if_neg (by omega), if_neg (by omega), if_pos h']

theorem decodeImm_wide {f : Nat} (h : 16 ≤ f) (ext : List Byte) :
    decodeImm f ext = (takeLE 1 ext).map fun v => .wide (BitVec.ofNat 12 ((f - 16) * 256 + v)) := by
  rw [decodeImm, if_neg (by omega), if_neg (by omega), if_neg (by omega), if_neg (by omega), if_neg (by omega), if_neg (by omega)]

/-- The extension bytes of an immediate give it back (30_encoding.md R100). -/
theorem decodeImm_ext (n : Imm5) (rest : List Byte) : decodeImm n.field (n.ext ++ rest) = some n := by
  cases n with
  | short v => rw [Imm5.field, decodeImm_short v.isLt, BitVec.ofNat_toNat, BitVec.setWidth_eq]
  | neg v =>
    have hv : v.toNat < 4 := v.isLt
    rw [Imm5.field, decodeImm_neg (by omega) (by omega), Nat.add_sub_cancel_left, BitVec.ofNat_toNat, BitVec.setWidth_eq]
  | data1 v => simp [decodeImm, Imm5.field, Imm5.ext, takeLE_leBytes (k := 1) v.isLt]
  | data2 v => simp [decodeImm, Imm5.field, Imm5.ext, takeLE_leBytes (k := 2) v.isLt]
  | data3 v => simp [decodeImm, Imm5.field, Imm5.ext, takeLE_leBytes (k := 3) v.isLt]
  | data4 v => simp [decodeImm, Imm5.field, Imm5.ext, takeLE_leBytes (k := 4) v.isLt]
  | wide v =>
    have hv : v.toNat < 4096 := v.isLt
    have hbyte : leBytes 1 v.toNat = leBytes 1 (v.toNat % 256) := (leBytes_mod 1 v.toNat).symm
    have hparts : (16 + v.toNat / 256 - 16) * 256 + v.toNat % 256 = v.toNat := by omega
    rw [Imm5.field, Imm5.ext, decodeImm_wide (by omega), hbyte,
      takeLE_leBytes (k := 1) (v := v.toNat % 256) (Nat.mod_lt _ (by decide)), Option.map_some,
      hparts, BitVec.ofNat_toNat, BitVec.setWidth_eq]

/-- The following data of an immediate are the bytes read. -/
theorem ext_of_takeLE {f k : Nat} {m : Nat → Imm5} {ext : List Byte} {n : Imm5} (hk : extLen f = k)
    (hm : ∀ v < 256 ^ k, (m v).field = f ∧ (m v).ext = leBytes k v) (h : (takeLE k ext).map m = some n) :
    n.field = f ∧ n.extLen ≤ ext.length ∧ n.ext = ext.take n.extLen := by
  obtain ⟨v, hv, rfl⟩ := Option.map_eq_some_iff.mp h
  obtain ⟨hlen, hlt, hbytes⟩ := leBytes_of_takeLE hv
  obtain ⟨hfield, hext⟩ := hm v hlt
  have hn : (m v).extLen = k := by rw [Imm5.extLen, hfield, hk]
  exact ⟨hfield, hn ▸ hlen, by rw [hn, hext, hbytes]⟩

/-- What an immediate field and the bytes after it are read as has that field and takes those bytes. -/
theorem ext_of_decodeImm {f : Nat} {ext : List Byte} {n : Imm5} (hf : f < 32) (h : decodeImm f ext = some n) :
    n.field = f ∧ n.extLen ≤ ext.length ∧ n.ext = ext.take n.extLen := by
  have hdata : ∀ {w : Nat} (v : Nat), v < 2 ^ w → (BitVec.ofNat w v).toNat = v := fun v hv => by
    rw [BitVec.toNat_ofNat, Nat.mod_eq_of_lt hv]
  by_cases hshort : f < 8
  · obtain rfl := Option.some.inj ((decodeImm_short hshort ext).symm.trans h)
    have hfield : (Imm5.short (BitVec.ofNat 3 f)).field = f := hdata f hshort
    have hlen : (Imm5.short (BitVec.ofNat 3 f)).extLen = 0 := by rw [Imm5.extLen, hfield]; exact if_pos hshort
    exact ⟨hfield, hlen ▸ Nat.zero_le _, by rw [hlen]; rfl⟩
  by_cases hwide : 16 ≤ f
  · have hbyte : ∀ v < 256, (BitVec.ofNat 12 ((f - 16) * 256 + v)).toNat = (f - 16) * 256 + v := fun v hv =>
      hdata _ (by omega)
    refine ext_of_takeLE (k := 1) ?_ (fun v hv => ⟨?_, ?_⟩) ((decodeImm_wide hwide ext).symm.trans h)
    · rw [extLen, if_neg (by omega), if_neg (by omega), if_neg (by omega)]
    · rw [Imm5.field, hbyte v hv]
      omega
    · rw [Imm5.ext, hbyte v hv, ← leBytes_mod, ← leBytes_mod 1 v]
      congr 1
      omega
  by_cases hneg : 12 ≤ f
  · obtain rfl := Option.some.inj ((decodeImm_neg hneg (by omega) ext).symm.trans h)
    have hfield : (Imm5.neg (BitVec.ofNat 2 (f - 12))).field = f := by
      rw [Imm5.field, hdata _ (by omega)]
      omega
    have hlen : (Imm5.neg (BitVec.ofNat 2 (f - 12))).extLen = 0 := by
      rw [Imm5.extLen, hfield, extLen, if_neg (by omega), if_neg (by omega), if_pos (by omega)]
    exact ⟨hfield, hlen ▸ Nat.zero_le _, by rw [hlen]; rfl⟩
  obtain rfl | rfl | rfl | rfl : f = 8 ∨ f = 9 ∨ f = 10 ∨ f = 11 := by omega
  · exact ext_of_takeLE (m := fun v => .data1 (.ofNat 8 v)) rfl (fun v hv => ⟨rfl, congrArg (leBytes 1) (hdata v hv)⟩) h
  · exact ext_of_takeLE (m := fun v => .data2 (.ofNat 16 v)) rfl (fun v hv => ⟨rfl, congrArg (leBytes 2) (hdata v hv)⟩) h
  · exact ext_of_takeLE (m := fun v => .data3 (.ofNat 24 v)) rfl (fun v hv => ⟨rfl, congrArg (leBytes 3) (hdata v hv)⟩) h
  · exact ext_of_takeLE (m := fun v => .data4 (.ofNat 32 v)) rfl (fun v hv => ⟨rfl, congrArg (leBytes 4) (hdata v hv)⟩) h

end Sys2Proof
end

section
/-!
The decoder undoes the encoder (30_encoding.md sections 1 to 6): one lemma per format, from the fields of its base, and the
instructions by format.
-/
namespace Sys2Proof

variable {op : Nat} {d r rs rt b j : RegNum} {n m : Imm5} {zz y : BitVec 2} {u : Bool} {rest : List Byte}

/-- The decoder at a base of the 24-bit layout: its fields, and the base as the word read. -/
theorem decode_word24 {s r i d op : Nat} (hs : s < 32) (hr : r < 32) (hi : i < 2) (hd : d < 32) {f : Format}
    (hf : formatOf op = some f) (hlen : f.len = 3) (ext : List Byte) :
    ∃ w, Word24Fields w s r i d op ∧ decode (leBytes 3 (word24 s r i d op) ++ ext) = decodeWord op w ext := by
  obtain ⟨hop, hbase⟩ := formatOf_some hf
  have hw := word24_fields hs hr hi hd hop
  refine ⟨_, hw, ?_⟩
  rw [decode_leBytes (by rw [hw.op, hbase, hlen]) (word24_lt hs hr hi hd hop), hw.op]

/-- The decoder at a base of the 32-bit layout. -/
theorem decode_word32 {t zz u s r i d op : Nat} (ht : t < 32) (hzz : zz < 4) (hu : u < 2) (hs : s < 32) (hr : r < 32)
    (hi : i < 2) (hd : d < 32) {f : Format} (hf : formatOf op = some f) (hlen : f.len = 4) (ext : List Byte) :
    ∃ w, Word24Fields w s r i d op ∧ Word32Fields w t zz u ∧
      decode (leBytes 4 (word32 t zz u s r i d op) ++ ext) = decodeWord op w ext := by
  obtain ⟨hop, hbase⟩ := formatOf_some hf
  have h24 := word24_lt hs hr hi hd hop
  have hw := word32_fields24 (t := t) (zz := zz) (u := u) (word24_fields hs hr hi hd hop)
  refine ⟨_, hw, word32_fields ht hzz hu h24, ?_⟩
  rw [decode_leBytes (by rw [hw.op, hbase, hlen]) (word32_lt ht hzz hu h24), hw.op]

theorem decode_encDrs {c : RegNum → RegNum → RegNum → Instr}
    (h : formatOf op = some .drsn ∧ opDrs op = some c ∨ formatOf op = some .dbjn24 ∧ opDbj op = some c) :
    decode (encDrs op d r rs ++ rest) = .ok (c d r rs) := by
  obtain ⟨hf, hc⟩ | ⟨hf, hc⟩ := h
  all_goals
    obtain ⟨w, hw, hdec⟩ := decode_word24 rs.isLt r.isLt (i := 0) (by decide) d.isLt hf rfl rest
    rw [encDrs, hdec]
    simp only [decodeWord, hf, bitField_eq (b := false) hw.i, regField_eq hw.d, regField_eq hw.r, regField_eq hw.s, hc,
      Option.map_some, orUnassigned, Bool.false_eq_true, if_false]

theorem decode_encDrn {c : RegNum → RegNum → Imm5 → Instr}
    (h : formatOf op = some .drsn ∧ opDrn op = some c ∨ formatOf op = some .dbjn24 ∧ opDbn op = some c) :
    decode (encDrn op 1 d r n ++ rest) = .ok (c d r n) := by
  obtain ⟨hf, hc⟩ | ⟨hf, hc⟩ := h
  all_goals
    obtain ⟨w, hw, hdec⟩ := decode_word24 n.field_lt r.isLt (i := 1) (by decide) d.isLt hf rfl (n.ext ++ rest)
    rw [encDrn, List.append_assoc, hdec]
    simp only [decodeWord, hf, bitField_eq (b := true) hw.i, regField_eq hw.d, regField_eq hw.r, field5, hw.s,
      decodeImm_ext, withImm, hc, Option.map_some, orUnassigned, if_true]

theorem decode_encDrst {c : RegNum → RegNum → RegNum → RegNum → BitVec 2 → Bool → Instr}
    (hf : formatOf op = some .drstn) (hc : opDrst op = some c) :
    decode (encDrst op d r rs rt zz u ++ rest) = .ok (c d r rs rt zz u) := by
  obtain ⟨w, hw, hw32, hdec⟩ := decode_word32 rt.isLt zz.isLt u.toNat_lt rs.isLt r.isLt (i := 0) (by decide) d.isLt hf rfl rest
  rw [encDrst, hdec]
  simp only [decodeWord, hf, bitField_eq (b := false) hw.i, regField_eq hw.d, regField_eq hw.r, regField_eq hw.s,
    regField_eq hw32.t, ofNat_eq zz _ hw32.zz, bitField_eq hw32.u, hc, Option.map_some, orUnassigned, Bool.false_eq_true, if_false]

theorem decode_encDrnt {c : RegNum → RegNum → Imm5 → RegNum → BitVec 2 → Bool → Instr}
    (hf : formatOf op = some .drstn) (hc : opDrnt op = some c) :
    decode (encDrnt op d r n rt zz u ++ rest) = .ok (c d r n rt zz u) := by
  obtain ⟨w, hw, hw32, hdec⟩ := decode_word32 rt.isLt zz.isLt u.toNat_lt n.field_lt r.isLt (i := 1) (by decide) d.isLt hf rfl
    (n.ext ++ rest)
  rw [encDrnt, List.append_assoc, hdec]
  simp only [decodeWord, hf, bitField_eq (b := true) hw.i, regField_eq hw.d, regField_eq hw.r, field5, hw.s, decodeImm_ext,
    regField_eq hw32.t, ofNat_eq zz _ hw32.zz, bitField_eq hw32.u, withImm, hc, Option.map_some, orUnassigned, if_true]

theorem decode_encDbjs {c : RegNum → RegNum → RegNum → RegNum → BitVec 2 → Bool → Instr}
    (hf : formatOf op = some .mem32) (hc : opDbjs op = some c) :
    decode (encDrst op d b rs j y u ++ rest) = .ok (c d b j rs y u) := by
  obtain ⟨w, hw, hw32, hdec⟩ := decode_word32 j.isLt y.isLt u.toNat_lt rs.isLt b.isLt (i := 0) (by decide) d.isLt hf rfl rest
  rw [encDrst, hdec]
  simp only [decodeWord, hf, bitField_eq (b := false) hw.i, regField_eq hw.d, regField_eq hw.r, regField_eq hw.s,
    regField_eq hw32.t, ofNat_eq y _ hw32.zz, bitField_eq hw32.u, hc, Option.map_some, orUnassigned, Bool.false_eq_true, if_false]

theorem decode_encDbjn {c : RegNum → RegNum → RegNum → Imm5 → BitVec 2 → Bool → Instr}
    (hf : formatOf op = some .mem32) (hc : opDbjn op = some c) :
    decode (encDrnt op d b n j y u ++ rest) = .ok (c d b j n y u) := by
  obtain ⟨w, hw, hw32, hdec⟩ := decode_word32 j.isLt y.isLt u.toNat_lt n.field_lt b.isLt (i := 1) (by decide) d.isLt hf rfl
    (n.ext ++ rest)
  rw [encDrnt, List.append_assoc, hdec]
  simp only [decodeWord, hf, bitField_eq (b := true) hw.i, regField_eq hw.d, regField_eq hw.r, field5, hw.s, decodeImm_ext,
    regField_eq hw32.t, ofNat_eq y _ hw32.zz, bitField_eq hw32.u, withImm, hc, Option.map_some, orUnassigned, if_true]

theorem decode_encSdbjs {c : RegNum → RegNum → RegNum → RegNum → BitVec 2 → Instr}
    (hf : formatOf op = some .store32) (hc : opSdbjs op = some c) :
    decode (encDrst op d b rs j y false ++ rest) = .ok (c d b j rs y) := by
  obtain ⟨w, hw, hw32, hdec⟩ := decode_word32 j.isLt y.isLt (u := 0) (by decide) rs.isLt b.isLt (i := 0) (by decide) d.isLt hf
    rfl rest
  rw [encDrst, Bool.toNat_false, hdec]
  simp only [decodeWord, hf, bitField_eq (b := false) hw.i, regField_eq hw.d, regField_eq hw.r, regField_eq hw.s,
    regField_eq hw32.t, ofNat_eq y _ hw32.zz, bitField_eq (b := false) hw32.u, hc, Option.map_some, orUnassigned,
    Bool.false_eq_true, if_false]

theorem decode_encSdbjn {c : RegNum → RegNum → RegNum → Imm5 → BitVec 2 → Instr}
    (hf : formatOf op = some .store32) (hc : opSdbjn op = some c) :
    decode (encDrnt op d b n j y false ++ rest) = .ok (c d b j n y) := by
  obtain ⟨w, hw, hw32, hdec⟩ := decode_word32 j.isLt y.isLt (u := 0) (by decide) n.field_lt b.isLt (i := 1) (by decide) d.isLt hf
    rfl (n.ext ++ rest)
  rw [encDrnt, Bool.toNat_false, List.append_assoc, hdec]
  simp only [decodeWord, hf, bitField_eq (b := true) hw.i, regField_eq hw.d, regField_eq hw.r, field5, hw.s, decodeImm_ext,
    regField_eq hw32.t, ofNat_eq y _ hw32.zz, bitField_eq (b := false) hw32.u, withImm, hc, Option.map_some, orUnassigned,
    Bool.false_eq_true, if_false, if_true]

theorem decode_encMbjs {c : Imm5 → RegNum → RegNum → RegNum → BitVec 2 → Instr}
    (hf : formatOf op = some .store32) (hc : opMbjs op = some c) :
    decode (encMbjs op m b j rs y ++ rest) = .ok (c m b j rs y) := by
  obtain ⟨w, hw, hw32, hdec⟩ := decode_word32 j.isLt y.isLt (u := 1) (by decide) rs.isLt b.isLt (i := 0) (by decide) m.field_lt
    hf rfl (m.ext ++ rest)
  rw [encMbjs, List.append_assoc, hdec]
  simp only [decodeWord, hf, bitField_eq (b := false) hw.i, field5, hw.d, regField_eq hw.r, regField_eq hw.s, decodeImm_ext,
    regField_eq hw32.t, ofNat_eq y _ hw32.zz, bitField_eq (b := true) hw32.u, withImm, hc, Option.map_some, orUnassigned,
    Bool.false_eq_true, if_false, if_true]

/-- The bytes of `n` come first (R117), so those of `m` begin where they end. -/
theorem decode_encMbjn {c : Imm5 → RegNum → RegNum → Imm5 → BitVec 2 → Instr}
    (hf : formatOf op = some .store32) (hc : opMbjn op = some c) :
    decode (encMbjn op m b j n y ++ rest) = .ok (c m b j n y) := by
  obtain ⟨w, hw, hw32, hdec⟩ := decode_word32 j.isLt y.isLt (u := 1) (by decide) n.field_lt b.isLt (i := 1) (by decide) m.field_lt
    hf rfl (n.ext ++ (m.ext ++ rest))
  have hdrop : (n.ext ++ (m.ext ++ rest)).drop n.extLen = m.ext ++ rest := List.drop_left' n.ext_length
  rw [encMbjn, List.append_assoc, List.append_assoc, hdec]
  simp only [decodeWord, hf, bitField_eq (b := true) hw.i, field5, hw.d, regField_eq hw.r, hw.s, decodeImm_ext, hdrop,
    regField_eq hw32.t, ofNat_eq y _ hw32.zz, bitField_eq (b := true) hw32.u, withImm, hc, Option.map_some, orUnassigned, if_true]

/-! ### The formats of one or a few instructions -/

theorem decode_encBb (i : Bool) :
    decode (encDrn 0x06 i.toNat d r n ++ rest) = .ok (if i then .bbs d r n else .bbc d r n) := by
  obtain ⟨w, hw, hdec⟩ := decode_word24 (op := 0x06) n.field_lt r.isLt i.toNat_lt d.isLt rfl rfl (n.ext ++ rest)
  rw [encDrn, List.append_assoc, hdec]
  simp only [decodeWord, formatOf, bitField_eq hw.i, regField_eq hw.d, regField_eq hw.r, field5, hw.s, decodeImm_ext, withImm]

theorem decode_loop : decode (encDrs 0x33 d r rs ++ rest) = .ok (.loop d r rs) := by
  obtain ⟨w, hw, hdec⟩ := decode_word24 (op := 0x33) rs.isLt r.isLt (i := 0) (by decide) d.isLt rfl rfl rest
  rw [encDrs, hdec]
  simp only [decodeWord, formatOf, bitField_eq (b := false) hw.i, regField_eq hw.d, regField_eq hw.r, regField_eq hw.s,
    Bool.false_eq_true, if_false]

theorem decode_loopi (f : BitVec 5) : decode (leBytes 3 (word24 f.toNat r 1 d 0x33) ++ rest) = .ok (.loopi d r f) := by
  obtain ⟨w, hw, hdec⟩ := decode_word24 (op := 0x33) f.isLt r.isLt (i := 1) (by decide) d.isLt rfl rfl rest
  rw [hdec]
  simp only [decodeWord, formatOf, bitField_eq (b := true) hw.i, regField_eq hw.d, regField_eq hw.r, ofNat_eq f _ hw.s, if_true]

theorem decode_encDs {k : SingleOp} {z : Bool} (h : k.assigned = true) :
    decode (encDs k d rs z ++ rest) = .ok (singleInstr k d rs z) := by
  unfold SingleOp.assigned at h
  split at h
  case h_1 c hcode =>
    obtain ⟨w, hw, hdec⟩ := decode_word24 (op := 0x37) rs.isLt c.isLt z.toNat_lt d.isLt rfl rfl rest
    simp only [encDs, hcode, hdec]
    simp only [decodeWord, formatOf, regField_eq hw.r, of_decide_eq_true h, regField_eq hw.d, regField_eq hw.s, bitField_eq hw.i]
  case h_2 => cases h

/-- The decoder at a base that is the opcode and the fields above it. -/
theorem decode_base {w : Nat} (k : Nat) {f : Format} (hf : formatOf op = some f) (hop : w % 256 = op) (hlen : f.len = k)
    (hw : w < 256 ^ k) (ext : List Byte) : decode (leBytes k w ++ ext) = decodeWord op w ext := by
  subst hop
  exact decode_leBytes ((formatOf_some hf).2.trans hlen) hw ext

/-- The fields of the conditional branches (R95, R97), of the loads of an immediate and of VECT above the opcode. -/
theorem decode_encDcn24 (c : Nat) (hc : c < 8) (n : BitVec 8) :
    decode (encDcn24 0x07 c d n ++ rest) = .ok (br24Of c d n) := by
  have hd := d.isLt
  have hn : n.toNat < 256 := n.isLt
  obtain ⟨w, hw⟩ : ∃ w, w = n.toNat * 2 ^ 16 + c * 2 ^ 13 + d * 2 ^ 8 + 0x07 := ⟨_, rfl⟩
  rw [encDcn24, ← hw, decode_base 3 (op := 0x07) rfl (by omega) rfl (by omega)]
  have hcond : w / 2 ^ 13 % 8 = c := by omega
  have hreg : regField w 8 = d := regField_eq (by omega)
  simp only [decodeWord, formatOf, hcond, hreg, ofNat_eq n (w / 2 ^ 16) (by omega)]

theorem decode_encDcn32 (c : Nat) (hc : c < 8) (n : BitVec 16) :
    decode (encDcn32 0x47 c d n ++ rest) = .ok (br32Of c d n) := by
  have hd := d.isLt
  have hn : n.toNat < 65536 := n.isLt
  obtain ⟨w, hw⟩ : ∃ w, w = n.toNat * 2 ^ 16 + c * 2 ^ 13 + d * 2 ^ 8 + 0x47 := ⟨_, rfl⟩
  rw [encDcn32, ← hw, decode_base 4 (op := 0x47) rfl (by omega) rfl (by omega)]
  have hcond : w / 2 ^ 13 % 8 = c := by omega
  have hreg : regField w 8 = d := regField_eq (by omega)
  simp only [decodeWord, formatOf, hcond, hreg, ofNat_eq n (w / 2 ^ 16) (by omega)]

theorem TyCode.toField_lt (a : TyCode) : a.toField < 4 := by cases a <;> decide

theorem TyCode.ofField_toField (a : TyCode) : TyCode.ofField a.toField = a := by cases a <;> rfl

theorem decode_vect (n : BitVec 11) :
    decode (leBytes 3 (n.toNat * 2 ^ 13 + d * 2 ^ 8 + 0x32) ++ rest) = .ok (.vect d n) := by
  have hd := d.isLt
  have hn : n.toNat < 2048 := n.isLt
  obtain ⟨w, hw⟩ : ∃ w, w = n.toNat * 2 ^ 13 + d * 2 ^ 8 + 0x32 := ⟨_, rfl⟩
  have hreg : regField w 8 = d := regField_eq (by omega)
  rw [← hw, decode_base 3 (op := 0x32) rfl (by omega) rfl (by omega)]
  simp only [decodeWord, formatOf, hreg, ofNat_eq n (w / 2 ^ 13) (by omega)]

/-- An LDI whose datum has `w` bits: the datum, the type and the destination, and the `x` bit 0. -/
theorem decode_encDan {k w : Nat} {f : Format} {c : RegNum → TyCode → BitVec w → Instr} (hf : formatOf op = some f)
    (hlen : f.len = k) (hk : 256 ^ k = 2 ^ w * 2 ^ 16)
    (hc : ∀ v ext, decodeWord op v ext = ldiOf op v fun d a => c d a (BitVec.ofNat w (v / 2 ^ 16))) (a : TyCode) (n : BitVec w) :
    decode (encDan k op d a n.toNat ++ rest) = .ok (c d a n) := by
  have hop := (formatOf_some hf).1
  have hd := d.isLt
  have ha := a.toField_lt
  have hn := n.isLt
  obtain ⟨v, hv⟩ : ∃ v, v = n.toNat * 2 ^ 16 + a.toField * 2 ^ 14 + d * 2 ^ 8 + op := ⟨_, rfl⟩
  have hlt : v < 256 ^ k := by rw [hk]; omega
  have hx : bitField v 13 = false := bitField_eq (by rw [Bool.toNat_false]; omega)
  have hty : v / 2 ^ 14 % 4 = a.toField := by omega
  have hreg : regField v 8 = d := regField_eq (by omega)
  have hdatum : v / 2 ^ 16 = n.toNat := by omega
  rw [encDan, ← hv, decode_base k hf (by omega) hlen hlt, hc, ldiOf, hx, hty, hreg, hdatum, TyCode.ofField_toField,
    BitVec.ofNat_toNat, BitVec.setWidth_eq]
  rfl

/-- BR, CALLR and the instructions refused as a whole: the opcode and one field of all the bits above it. -/
theorem decode_field {k w : Nat} {f : Format} {c : BitVec w → Instr} (hf : formatOf op = some f) (hlen : f.len = k)
    (hk : 256 ^ k = 2 ^ w * 2 ^ 8) (hc : ∀ v ext, decodeWord op v ext = .ok (c (BitVec.ofNat w (v / 2 ^ 8)))) (n : BitVec w) :
    decode (leBytes k (n.toNat * 2 ^ 8 + op) ++ rest) = .ok (c n) := by
  have hop := (formatOf_some hf).1
  have hn := n.isLt
  have hlt : n.toNat * 2 ^ 8 + op < 256 ^ k := by rw [hk]; omega
  have hfield : (n.toNat * 2 ^ 8 + op) / 2 ^ 8 = n.toNat := by omega
  rw [decode_base k hf (by omega) hlen hlt, hc, hfield, BitVec.ofNat_toNat, BitVec.setWidth_eq]

theorem decode_raw16 {c : BitVec 16 → Instr} (hf : formatOf op = some .raw16) (hc : opRaw16 op = some c) (n : BitVec 16) :
    decode (leBytes 3 (n.toNat * 2 ^ 8 + op) ++ rest) = .ok (c n) :=
  decode_field hf rfl (by decide) (fun _ _ => by simp only [decodeWord, hf, hc, Option.map_some, orUnassigned]) n

theorem decode_raw24 {c : BitVec 24 → Instr} (hf : formatOf op = some .raw24) (hc : opRaw24 op = some c) (n : BitVec 24) :
    decode (leBytes 4 (n.toNat * 2 ^ 8 + op) ++ rest) = .ok (c n) :=
  decode_field hf rfl (by decide) (fun _ _ => by simp only [decodeWord, hf, hc, Option.map_some, orUnassigned]) n

/-- No bit of an encoding is dropped: each format's lemma gives the operands back, and the opcode tables the mnemonic. -/
theorem decode_encode (i : Instr) (rest : List Byte) (hwf : WellFormed i = true) : decode (encode i ++ rest) = .ok i := by
  cases i
  case trap | brk | nxth | nxtw => exact decode_cons_of_lt_four (by decide) rest
  case br n =>
    cases n with
    | d16 v => exact decode_field (op := 0x04) (c := fun v => .br (.d16 v)) (k := 3) rfl rfl (by decide) (fun _ _ => rfl) v
    | d24 v => exact decode_field (op := 0x44) (c := fun v => .br (.d24 v)) (k := 4) rfl rfl (by decide) (fun _ _ => rfl) v
  case callr n =>
    cases n with
    | d16 v => exact decode_field (op := 0x05) (c := fun v => .callr (.d16 v)) (k := 3) rfl rfl (by decide) (fun _ _ => rfl) v
    | d24 v => exact decode_field (op := 0x45) (c := fun v => .callr (.d24 v)) (k := 4) rfl rfl (by decide) (fun _ _ => rfl) v
  case enter f | exit f => exact decode_raw16 rfl rfl f
  case intp f | lut f | cmov f | container32 f | mmov f | pcnd f | pcb1 f | stm f | ldm f | tt f =>
    exact decode_raw24 rfl rfl f
  case bbs => exact decode_encBb true
  case bbc => exact decode_encBb false
  case brz24 | brgz24 | brgez24 | brev24 | brnz24 | brlez24 | brlz24 | brod24 => exact decode_encDcn24 _ (by decide) _
  case brz32 | brgz32 | brgez32 | brev32 | brnz32 | brlez32 | brlz32 | brod32 => exact decode_encDcn32 _ (by decide) _
  case ldi8 a n => exact decode_encDan (op := 0x08) (c := .ldi8) (k := 3) rfl rfl (by decide) (fun _ _ => rfl) a n
  case ldi16 a n => exact decode_encDan (op := 0x48) (c := .ldi16) (k := 4) rfl rfl (by decide) (fun _ _ => rfl) a n
  case ldi24 a n => exact decode_encDan (op := 0x88) (c := .ldi24) (k := 5) rfl rfl (by decide) (fun _ _ => rfl) a n
  case ldi32 a n => exact decode_encDan (op := 0xC8) (c := .ldi32) (k := 6) rfl rfl (by decide) (fun _ _ => rfl) a n
  case vect n => exact decode_vect n
  case loop => exact decode_loop
  case loopi f => exact decode_loopi f
  case st8Dbj | st16Dbj | st24Dbj | st32Dbj | ldu8Dbj | ldu16Dbj | ldu24Dbj | ldu32Dbj | ld8Dbj | ld16Dbj | ld24Dbj |
      ld32Dbj | fld8Dbj | fld16Dbj | fld24Dbj | fld32Dbj | pld8Dbj | pld16Dbj | pld24Dbj | pld32Dbj | callDbj =>
    exact decode_encDrs (.inr ⟨rfl, rfl⟩)
  case add | sub | mul | div | addnu | subnu | mulnu | divnu | and | or | xor | cmp | extrct | lsr | asr | ror | max | min =>
    exact decode_encDrs (.inl ⟨rfl, rfl⟩)
  case st8Dbn | st16Dbn | st24Dbn | st32Dbn | ldu8Dbn | ldu16Dbn | ldu24Dbn | ldu32Dbn | ld8Dbn | ld16Dbn | ld24Dbn |
      ld32Dbn | fld8Dbn | fld16Dbn | fld24Dbn | fld32Dbn | pld8Dbn | pld16Dbn | pld24Dbn | pld32Dbn | callDbn =>
    exact decode_encDrn (.inr ⟨rfl, rfl⟩)
  case addi | subi | muli | divi | addnui | subnui | mulnui | divnui | andi | ori | xori | cmpi | extrcti | lsri | asri |
      rori | maxi | mini =>
    exact decode_encDrn (.inl ⟨rfl, rfl⟩)
  case st8Dbjs | st16Dbjs | st24Dbjs | st32Dbjs => exact decode_encSdbjs rfl rfl
  case st8Dbjn | st16Dbjn | st24Dbjn | st32Dbjn => exact decode_encSdbjn rfl rfl
  case st8Mbjs | st16Mbjs | st24Mbjs | st32Mbjs => exact decode_encMbjs rfl rfl
  case st8Mbjn | st16Mbjn | st24Mbjn | st32Mbjn => exact decode_encMbjn rfl rfl
  case ldu8Dbjs | ldu16Dbjs | ldu24Dbjs | ldu32Dbjs | ld8Dbjs | ld16Dbjs | ld24Dbjs | ld32Dbjs | fld8Dbjs | fld16Dbjs |
      fld24Dbjs | fld32Dbjs | pld8Dbjs | pld16Dbjs | pld24Dbjs | pld32Dbjs | lea8Dbjs | lea16Dbjs | lea24Dbjs |
      lea32Dbjs | callDbjs =>
    exact decode_encDbjs rfl rfl
  case ldu8Dbjn | ldu16Dbjn | ldu24Dbjn | ldu32Dbjn | ld8Dbjn | ld16Dbjn | ld24Dbjn | ld32Dbjn | fld8Dbjn | fld16Dbjn |
      fld24Dbjn | fld32Dbjn | pld8Dbjn | pld16Dbjn | pld24Dbjn | pld32Dbjn | lea8Dbjn | lea16Dbjn | lea24Dbjn |
      lea32Dbjn | callDbjn =>
    exact decode_encDbjn rfl rfl
  case add3 | sub3 | mac | ddiv | and3 | or3 | xor3 | insrt | extrctD | shr | asrD | rorD | max3 | min3 | median3 =>
    exact decode_encDrst rfl rfl
  case add3i | sub3i | maci | ddivi | and3i | or3i | xor3i | insrti | extrctiD | shri | asriD | roriD | max3i | min3i |
      median3I =>
    exact decode_encDrnt rfl rfl
  case inp | out | mov | not | neg | inc | dec | abs | nabs | ldzcnt | ld1cnt | trzcnt | tr1cnt | popcnt | sqrt | sinpi |
      cospi | tanpi | asinpi | acospi | atanpi | int | flt | expon | fract | fsqrt | frsqrt | frcp | ln2p1 | ln2 |
      exp2m1 | exp2 | rnd | rndtev | rndtod | rndtz | rndfz | ceil | floor =>
    exact decode_encDs hwf
  case cvt | lnp1 | ln | logp1 | log | expm1 | exp | exp10m1 | exp10 | sin | cos | tan | asin | acos | atan | movi | merg |
      eadd | mv2 | shl =>
    exact absurd hwf Bool.false_ne_true

end Sys2Proof

namespace Sys2Proof.Proofs.Encoding

/-- Settles O1: a case split on the instruction, each case the lemma of its format. -/
theorem decodeEncode : Obligations.DecodeEncode := by
  unfold Obligations.DecodeEncode
  exact decode_encode

end Sys2Proof.Proofs.Encoding
end

section
/-!
The encoder undoes the decoder (30_encoding.md sections 1 to 7): every row of the opcode tables stands in the bytes of its
format, and the fields cut from a base put together are the base again.
-/
namespace Sys2Proof

/-- The instruction stands in memory in these bytes and in no fewer. -/
structure StandsIn (i : Instr) (len : Nat) (bytes : List Byte) : Prop where
  wf : WellFormed i = true
  length : instrLength i = len
  bytes : encode i = bytes

/-! ### The opcode tables, read from the opcode -/

theorem opN8_standsIn {op : Nat} {i : Instr} (h : opN8 op = some i) : StandsIn i 1 (leBytes 1 op) := by
  unfold opN8 at h
  split at h <;> cases h <;> exact ⟨rfl, rfl, rfl⟩

theorem opDisp_standsIn {op : Nat} {c : Disp → Instr} (h : opDisp op = some c) (n : Disp) :
    StandsIn (c n) n.length (encDisp op n) := by
  unfold opDisp at h
  split at h <;> cases h <;> exact ⟨rfl, rfl, rfl⟩

theorem opRaw16_standsIn {op : Nat} {c : BitVec 16 → Instr} (h : opRaw16 op = some c) (n : BitVec 16) :
    StandsIn (c n) 3 (leBytes 3 (n.toNat * 2 ^ 8 + op)) := by
  unfold opRaw16 at h
  split at h <;> cases h <;> exact ⟨rfl, rfl, rfl⟩

theorem opRaw24_standsIn {op : Nat} {c : BitVec 24 → Instr} (h : opRaw24 op = some c) (n : BitVec 24) :
    StandsIn (c n) 4 (leBytes 4 (n.toNat * 2 ^ 8 + op)) := by
  unfold opRaw24 at h
  split at h <;> cases h <;> exact ⟨rfl, rfl, rfl⟩

theorem opDrs_standsIn {op : Nat} {c : RegNum → RegNum → RegNum → Instr} (h : opDrs op = some c) (d r rs : RegNum) :
    StandsIn (c d r rs) 3 (encDrs op d r rs) := by
  unfold opDrs at h
  split at h <;> cases h <;> exact ⟨rfl, rfl, rfl⟩

theorem opDrn_standsIn {op : Nat} {c : RegNum → RegNum → Imm5 → Instr} (h : opDrn op = some c) (d r : RegNum) (n : Imm5) :
    StandsIn (c d r n) (3 + n.extLen) (encDrn op 1 d r n) := by
  unfold opDrn at h
  split at h <;> cases h <;> exact ⟨rfl, rfl, rfl⟩

theorem opDbj_standsIn {op : Nat} {c : RegNum → RegNum → RegNum → Instr} (h : opDbj op = some c) (d b j : RegNum) :
    StandsIn (c d b j) 3 (encDrs op d b j) := by
  unfold opDbj at h
  split at h <;> cases h <;> exact ⟨rfl, rfl, rfl⟩

theorem opDbn_standsIn {op : Nat} {c : RegNum → RegNum → Imm5 → Instr} (h : opDbn op = some c) (d b : RegNum) (n : Imm5) :
    StandsIn (c d b n) (3 + n.extLen) (encDrn op 1 d b n) := by
  unfold opDbn at h
  split at h <;> cases h <;> exact ⟨rfl, rfl, rfl⟩

theorem opDbjs_standsIn {op : Nat} {c : RegNum → RegNum → RegNum → RegNum → BitVec 2 → Bool → Instr}
    (h : opDbjs op = some c) (d b j rs : RegNum) (y : BitVec 2) (u : Bool) :
    StandsIn (c d b j rs y u) 4 (encDrst op d b rs j y u) := by
  unfold opDbjs at h
  split at h <;> cases h <;> exact ⟨rfl, rfl, rfl⟩

theorem opDbjn_standsIn {op : Nat} {c : RegNum → RegNum → RegNum → Imm5 → BitVec 2 → Bool → Instr}
    (h : opDbjn op = some c) (d b j : RegNum) (n : Imm5) (y : BitVec 2) (u : Bool) :
    StandsIn (c d b j n y u) (4 + n.extLen) (encDrnt op d b n j y u) := by
  unfold opDbjn at h
  split at h <;> cases h <;> exact ⟨rfl, rfl, rfl⟩

theorem opSdbjs_standsIn {op : Nat} {c : RegNum → RegNum → RegNum → RegNum → BitVec 2 → Instr}
    (h : opSdbjs op = some c) (d b j rs : RegNum) (y : BitVec 2) :
    StandsIn (c d b j rs y) 4 (encDrst op d b rs j y false) := by
  unfold opSdbjs at h
  split at h <;> cases h <;> exact ⟨rfl, rfl, rfl⟩

theorem opSdbjn_standsIn {op : Nat} {c : RegNum → RegNum → RegNum → Imm5 → BitVec 2 → Instr}
    (h : opSdbjn op = some c) (d b j : RegNum) (n : Imm5) (y : BitVec 2) :
    StandsIn (c d b j n y) (4 + n.extLen) (encDrnt op d b n j y false) := by
  unfold opSdbjn at h
  split at h <;> cases h <;> exact ⟨rfl, rfl, rfl⟩

theorem opMbjs_standsIn {op : Nat} {c : Imm5 → RegNum → RegNum → RegNum → BitVec 2 → Instr}
    (h : opMbjs op = some c) (m : Imm5) (b j rs : RegNum) (y : BitVec 2) :
    StandsIn (c m b j rs y) (4 + m.extLen) (encMbjs op m b j rs y) := by
  unfold opMbjs at h
  split at h <;> cases h <;> exact ⟨rfl, rfl, rfl⟩

theorem opMbjn_standsIn {op : Nat} {c : Imm5 → RegNum → RegNum → Imm5 → BitVec 2 → Instr}
    (h : opMbjn op = some c) (m : Imm5) (b j : RegNum) (n : Imm5) (y : BitVec 2) :
    StandsIn (c m b j n y) (4 + n.extLen + m.extLen) (encMbjn op m b j n y) := by
  unfold opMbjn at h
  split at h <;> cases h <;> exact ⟨rfl, rfl, rfl⟩

theorem opDrst_standsIn {op : Nat} {c : RegNum → RegNum → RegNum → RegNum → BitVec 2 → Bool → Instr}
    (h : opDrst op = some c) (d r rs rt : RegNum) (zz : BitVec 2) (u : Bool) :
    StandsIn (c d r rs rt zz u) 4 (encDrst op d r rs rt zz u) := by
  unfold opDrst at h
  split at h <;> cases h <;> exact ⟨rfl, rfl, rfl⟩

theorem opDrnt_standsIn {op : Nat} {c : RegNum → RegNum → Imm5 → RegNum → BitVec 2 → Bool → Instr}
    (h : opDrnt op = some c) (d r : RegNum) (n : Imm5) (rt : RegNum) (zz : BitVec 2) (u : Bool) :
    StandsIn (c d r n rt zz u) (4 + n.extLen) (encDrnt op d r n rt zz u) := by
  unfold opDrnt at h
  split at h <;> cases h <;> exact ⟨rfl, rfl, rfl⟩

theorem br24Of_standsIn {c : Nat} (hc : c < 8) (d : RegNum) (n : BitVec 8) :
    StandsIn (br24Of c d n) 3 (encDcn24 0x07 c d n) := by
  interval_cases c <;> exact ⟨rfl, rfl, rfl⟩

theorem br32Of_standsIn {c : Nat} (hc : c < 8) (d : RegNum) (n : BitVec 16) :
    StandsIn (br32Of c d n) 4 (encDcn32 0x47 c d n) := by
  interval_cases c <;> exact ⟨rfl, rfl, rfl⟩

/-- The mnemonic `subop24` names has that sub-opcode. -/
theorem subopCode_of_subop24 {k : Fin 32} {m : SingleOp} (h : subop24 k = some m) : Config.subopCode m = some k :=
  of_decide_eq_true (List.find?_some (p := fun m => decide (Config.subopCode m = some k)) h)

theorem assigned_of_subop24 {k : Fin 32} {m : SingleOp} (h : subop24 k = some m) : m.assigned = true := by
  rw [SingleOp.assigned, subopCode_of_subop24 h]
  exact decide_eq_true h

theorem singleInstr_standsIn {k : Fin 32} {m : SingleOp} (h : subop24 k = some m) (d rs : RegNum) (z : Bool) :
    StandsIn (singleInstr m d rs z) 3 (leBytes 3 (word24 rs k z.toNat d 0x37)) := by
  have hwf := assigned_of_subop24 h
  have hbytes : encDs m d rs z = leBytes 3 (word24 rs k z.toNat d 0x37) := by rw [encDs, subopCode_of_subop24 h]
  cases m <;> exact ⟨hwf, rfl, hbytes⟩

/-! ### Putting the fields of a base together -/

theorem orUnassigned_ok {op : Nat} {o : Option Instr} {i : Instr} : orUnassigned op o = .ok i ↔ o = some i := by
  cases o <;> simp [orUnassigned]

theorem withImm_ok {n : Option Imm5} {k : Imm5 → Except DecodeError Instr} {i : Instr} :
    withImm n k = .ok i ↔ ∃ m, n = some m ∧ k m = .ok i := by
  cases n <;> simp [withImm]

theorem ldiOf_ok {op w : Nat} {c : RegNum → TyCode → Instr} {i : Instr} :
    ldiOf op w c = .ok i ↔ bitField w 13 = false ∧ c (regField w 8) (TyCode.ofField (w / 2 ^ 14 % 4)) = i := by
  unfold ldiOf
  split <;> simp_all

theorem bitField_toNat (w lo : Nat) : (bitField w lo).toNat = w / 2 ^ lo % 2 := by
  have h := Nat.mod_two_eq_zero_or_one (w / 2 ^ lo)
  obtain h | h := h <;> simp [bitField, h]

theorem TyCode.toField_ofField {a : Nat} (h : a < 4) : (TyCode.ofField a).toField = a := by
  interval_cases a <;> rfl

section
variable {op w : Nat} {n m : Imm5}

theorem encDrs_of_word (hw : w < 256 ^ 3) (hop : w % 256 = op) (hi : bitField w 13 = false) :
    encDrs op (regField w 8) (regField w 14) (regField w 19) = leBytes 3 w := by
  have hbit := bitField_toNat w 13
  rw [hi] at hbit
  have hword := word24_of_fields w hw
  rw [hop, ← hbit] at hword
  exact congrArg (leBytes 3) hword

theorem encDrn_of_word (hw : w < 256 ^ 3) (hop : w % 256 = op) (hn : n.field = field5 w 19) :
    encDrn op (bitField w 13).toNat (regField w 8) (regField w 14) n = leBytes 3 w ++ n.ext := by
  have hword := word24_of_fields w hw
  rw [hop, ← bitField_toNat] at hword
  rw [encDrn, hn]
  exact congrArg (leBytes 3 · ++ n.ext) hword

theorem encDrst_of_word (hw : w < 256 ^ 4) (hop : w % 256 = op) (hi : bitField w 13 = false) :
    encDrst op (regField w 8) (regField w 14) (regField w 19) (regField w 27) (BitVec.ofNat 2 (w / 2 ^ 25)) (bitField w 24) =
      leBytes 4 w := by
  have hbit := bitField_toNat w 13
  rw [hi] at hbit
  have hword := word32_of_fields w hw
  rw [hop, ← hbit, ← bitField_toNat w 24] at hword
  rw [encDrst, BitVec.toNat_ofNat]
  exact congrArg (leBytes 4) hword

theorem encDrnt_of_word (hw : w < 256 ^ 4) (hop : w % 256 = op) (hi : bitField w 13 = true) (hn : n.field = field5 w 19) :
    encDrnt op (regField w 8) (regField w 14) n (regField w 27) (BitVec.ofNat 2 (w / 2 ^ 25)) (bitField w 24) =
      leBytes 4 w ++ n.ext := by
  have hbit := bitField_toNat w 13
  rw [hi] at hbit
  have hword := word32_of_fields w hw
  rw [hop, ← hbit, ← bitField_toNat w 24] at hword
  rw [encDrnt, BitVec.toNat_ofNat, hn]
  exact congrArg (leBytes 4 · ++ n.ext) hword

theorem encMbjs_of_word (hw : w < 256 ^ 4) (hop : w % 256 = op) (hi : bitField w 13 = false) (hu : bitField w 24 = true)
    (hm : m.field = field5 w 8) :
    encMbjs op m (regField w 14) (regField w 27) (regField w 19) (BitVec.ofNat 2 (w / 2 ^ 25)) = leBytes 4 w ++ m.ext := by
  have hbit := bitField_toNat w 13
  have hbit' := bitField_toNat w 24
  rw [hi] at hbit
  rw [hu] at hbit'
  have hword := word32_of_fields w hw
  rw [hop, ← hbit, ← hbit'] at hword
  rw [encMbjs, BitVec.toNat_ofNat, hm]
  exact congrArg (leBytes 4 · ++ m.ext) hword

theorem encMbjn_of_word (hw : w < 256 ^ 4) (hop : w % 256 = op) (hi : bitField w 13 = true) (hu : bitField w 24 = true)
    (hn : n.field = field5 w 19) (hm : m.field = field5 w 8) :
    encMbjn op m (regField w 14) (regField w 27) n (BitVec.ofNat 2 (w / 2 ^ 25)) = leBytes 4 w ++ n.ext ++ m.ext := by
  have hbit := bitField_toNat w 13
  have hbit' := bitField_toNat w 24
  rw [hi] at hbit
  rw [hu] at hbit'
  have hword := word32_of_fields w hw
  rw [hop, ← hbit, ← hbit'] at hword
  rw [encMbjn, BitVec.toNat_ofNat, hm, hn]
  exact congrArg (leBytes 4 · ++ n.ext ++ m.ext) hword

theorem encDcn24_of_word (hw : w < 256 ^ 3) (hop : w % 256 = op) :
    encDcn24 op (w / 2 ^ 13 % 8) (regField w 8) (BitVec.ofNat 8 (w / 2 ^ 16)) = leBytes 3 w := by
  have hd : (regField w 8 : Nat) = w / 2 ^ 8 % 32 := rfl
  rw [encDcn24, hd, BitVec.toNat_ofNat]
  congr 1
  omega

theorem encDcn32_of_word (hw : w < 256 ^ 4) (hop : w % 256 = op) :
    encDcn32 op (w / 2 ^ 13 % 8) (regField w 8) (BitVec.ofNat 16 (w / 2 ^ 16)) = leBytes 4 w := by
  have hd : (regField w 8 : Nat) = w / 2 ^ 8 % 32 := rfl
  rw [encDcn32, hd, BitVec.toNat_ofNat]
  congr 1
  omega

theorem encDan_of_word {k b : Nat} (hw : w < 256 ^ k) (hk : 256 ^ k = 2 ^ b * 2 ^ 16) (hop : w % 256 = op)
    (hx : bitField w 13 = false) :
    encDan k op (regField w 8) (TyCode.ofField (w / 2 ^ 14 % 4)) (BitVec.ofNat b (w / 2 ^ 16)).toNat = leBytes k w := by
  have hd : (regField w 8 : Nat) = w / 2 ^ 8 % 32 := rfl
  have hbit := bitField_toNat w 13
  rw [hx, Bool.toNat_false] at hbit
  have hdatum : w / 2 ^ 16 < 2 ^ b := by rw [hk] at hw; omega
  rw [encDan, hd, TyCode.toField_ofField (by omega), BitVec.toNat_ofNat, Nat.mod_eq_of_lt hdatum]
  congr 1
  omega

/-- The opcode and one field of all the bits above it. -/
theorem field_of_word {k b : Nat} (hw : w < 256 ^ k) (hk : 256 ^ k = 2 ^ b * 2 ^ 8) (hop : w % 256 = op) :
    (BitVec.ofNat b (w / 2 ^ 8)).toNat * 2 ^ 8 + op = w := by
  have hfield : w / 2 ^ 8 < 2 ^ b := by rw [hk] at hw; omega
  rw [BitVec.toNat_ofNat, Nat.mod_eq_of_lt hfield]
  omega

end

/-- What the decoder reads from a base `w` and the bytes after it: `i` stands in exactly the base and the extension bytes
the base announces, and these are there. -/
structure Reads (op w : Nat) (ext : List Byte) (i : Instr) : Prop where
  held : extCount op w ≤ ext.length
  stands : StandsIn i (baseLen op + extCount op w) (leBytes (baseLen op) w ++ ext.take (extCount op w))

section
variable {op w k : Nat} {ext : List Byte} {i : Instr}

theorem reads_base (hb : baseLen op = k) (he : extCount op w = 0) (h : StandsIn i k (leBytes k w)) : Reads op w ext i := by
  constructor
  · rw [he]
    exact Nat.zero_le _
  · rwa [he, hb, List.take_zero, List.append_nil]

theorem reads_imm {f : Nat} {n : Imm5} (hb : baseLen op = k) (he : extCount op w = extLen f) (hf : f < 32)
    (hn : decodeImm f ext = some n) (h : StandsIn i (k + n.extLen) (leBytes k w ++ n.ext)) : Reads op w ext i := by
  obtain ⟨hfield, hlen, hext⟩ := ext_of_decodeImm hf hn
  have hcount : extCount op w = n.extLen := by rw [he, Imm5.extLen, hfield]
  constructor
  · rwa [hcount]
  · rwa [hcount, hb, ← hext]

theorem reads_two_imms {f f' : Nat} {n m : Imm5} (hb : baseLen op = k) (he : extCount op w = extLen f + extLen f') (hf : f < 32)
    (hf' : f' < 32) (hn : decodeImm f ext = some n) (hm : decodeImm f' (ext.drop n.extLen) = some m)
    (h : StandsIn i (k + n.extLen + m.extLen) (leBytes k w ++ n.ext ++ m.ext)) : Reads op w ext i := by
  obtain ⟨hfield, hlen, hext⟩ := ext_of_decodeImm hf hn
  obtain ⟨hfield', hlen', hext'⟩ := ext_of_decodeImm hf' hm
  have hcount : extCount op w = n.extLen + m.extLen := by rw [he, Imm5.extLen, Imm5.extLen, hfield, hfield']
  constructor
  · rw [List.length_drop] at hlen'
    omega
  · rwa [hcount, hb, List.take_add, ← hext, ← hext', ← List.append_assoc, ← Nat.add_assoc]

end

/-! ### The formats -/

theorem field5_lt (w lo : Nat) : field5 w lo < 32 := Nat.mod_lt _ (by decide)

/-- BR and CALLR have no other opcodes than those of their two formats. -/
theorem formatOf_n24 {op : Nat} (h : formatOf op = some .n24) : op % 64 = op := by
  unfold formatOf at h
  split at h <;> cases h <;> decide

theorem formatOf_n32 {op : Nat} (h : formatOf op = some .n32) : 0x40 + op % 64 = op := by
  unfold formatOf at h
  split at h <;> cases h <;> decide

section
variable {op w : Nat} {ext : List Byte} {i : Instr}

theorem reads_disp (hop : w % 256 = op) (hf : formatOf op = some .n24 ∨ formatOf op = some .n32)
    (hw : w < 256 ^ baseLen op) (h : decodeWord op w ext = .ok i) : Reads op w ext i := by
  obtain hf | hf := hf
  all_goals
    have hb := (formatOf_some hf).2
    rw [hb] at hw
    simp only [decodeWord, hf, orUnassigned_ok, Option.map_eq_some_iff] at h
    obtain ⟨c, hc, rfl⟩ := h
  · have hstands := opDisp_standsIn hc (.d16 (BitVec.ofNat 16 (w / 2 ^ 8)))
    rw [encDisp, formatOf_n24 hf, field_of_word hw (by decide) hop] at hstands
    exact reads_base hb (by simp only [extCount, hf]) hstands
  · have hstands := opDisp_standsIn hc (.d24 (BitVec.ofNat 24 (w / 2 ^ 8)))
    rw [encDisp, Nat.add_assoc, formatOf_n32 hf, field_of_word hw (by decide) hop] at hstands
    exact reads_base hb (by simp only [extCount, hf]) hstands

/-- The 24-bit formats whose bit 13 tells a register from an immediate in the place of S. -/
theorem reads_short (hop : w % 256 = op) (hf : formatOf op = some .drsn ∨ formatOf op = some .dbjn24)
    (hw : w < 256 ^ baseLen op) (h : decodeWord op w ext = .ok i) : Reads op w ext i := by
  have hb : baseLen op = 3 := by obtain hf | hf := hf <;> exact (formatOf_some hf).2
  have he : extCount op w = if bitField w 13 then extLen (field5 w 19) else 0 := by
    obtain hf | hf := hf <;> simp only [extCount, hf]
  rw [hb] at hw
  cases hi : bitField w 13
  case false =>
    have hstands : StandsIn i 3 (encDrs op (regField w 8) (regField w 14) (regField w 19)) := by
      obtain hf | hf := hf
      all_goals
        simp only [decodeWord, hf, hi, orUnassigned_ok, Option.map_eq_some_iff, Bool.false_eq_true, if_false] at h
        obtain ⟨c, hc, rfl⟩ := h
      · exact opDrs_standsIn hc _ _ _
      · exact opDbj_standsIn hc _ _ _
    rw [encDrs_of_word hw hop hi] at hstands
    exact reads_base hb (by rw [he, hi]; rfl) hstands
  case true =>
    obtain ⟨n, hn, hstands⟩ : ∃ n, decodeImm (field5 w 19) ext = some n ∧
        StandsIn i (3 + n.extLen) (encDrn op 1 (regField w 8) (regField w 14) n) := by
      obtain hf | hf := hf
      all_goals
        simp only [decodeWord, hf, hi, orUnassigned_ok, withImm_ok, Option.map_eq_some_iff, if_true] at h
        obtain ⟨n, hn, c, hc, rfl⟩ := h
      · exact ⟨n, hn, opDrn_standsIn hc _ _ _⟩
      · exact ⟨n, hn, opDbn_standsIn hc _ _ _⟩
    have hword := encDrn_of_word hw hop (ext_of_decodeImm (field5_lt w 19) hn).1
    rw [hi, Bool.toNat_true] at hword
    exact reads_imm hb (by rw [he, hi]; rfl) (field5_lt w 19) hn (hword ▸ hstands)

/-- The 32-bit formats whose bit 13 tells a register from an immediate in the place of S. -/
theorem reads_long (hop : w % 256 = op) (hf : formatOf op = some .drstn ∨ formatOf op = some .mem32)
    (hw : w < 256 ^ baseLen op) (h : decodeWord op w ext = .ok i) : Reads op w ext i := by
  have hb : baseLen op = 4 := by obtain hf | hf := hf <;> exact (formatOf_some hf).2
  have he : extCount op w = if bitField w 13 then extLen (field5 w 19) else 0 := by
    obtain hf | hf := hf <;> simp only [extCount, hf]
  rw [hb] at hw
  cases hi : bitField w 13
  case false =>
    have hstands : StandsIn i 4 (encDrst op (regField w 8) (regField w 14) (regField w 19) (regField w 27)
        (BitVec.ofNat 2 (w / 2 ^ 25)) (bitField w 24)) := by
      obtain hf | hf := hf
      all_goals
        simp only [decodeWord, hf, hi, orUnassigned_ok, Option.map_eq_some_iff, Bool.false_eq_true, if_false] at h
        obtain ⟨c, hc, rfl⟩ := h
      · exact opDrst_standsIn hc _ _ _ _ _ _
      · exact opDbjs_standsIn hc _ _ _ _ _ _
    rw [encDrst_of_word hw hop hi] at hstands
    exact reads_base hb (by rw [he, hi]; rfl) hstands
  case true =>
    obtain ⟨n, hn, hstands⟩ : ∃ n, decodeImm (field5 w 19) ext = some n ∧
        StandsIn i (4 + n.extLen) (encDrnt op (regField w 8) (regField w 14) n (regField w 27)
          (BitVec.ofNat 2 (w / 2 ^ 25)) (bitField w 24)) := by
      obtain hf | hf := hf
      all_goals
        simp only [decodeWord, hf, hi, orUnassigned_ok, withImm_ok, Option.map_eq_some_iff, if_true] at h
        obtain ⟨n, hn, c, hc, rfl⟩ := h
      · exact ⟨n, hn, opDrnt_standsIn hc _ _ _ _ _ _⟩
      · exact ⟨n, hn, opDbjn_standsIn hc _ _ _ _ _ _⟩
    rw [encDrnt_of_word hw hop hi (ext_of_decodeImm (field5_lt w 19) hn).1] at hstands
    exact reads_imm hb (by rw [he, hi]; rfl) (field5_lt w 19) hn hstands

/-- The 32-bit stores: bit 24 tells a stored register from a stored immediate, bit 13 as in the other formats. -/
theorem reads_store (hop : w % 256 = op) (hf : formatOf op = some .store32) (hw : w < 256 ^ baseLen op)
    (h : decodeWord op w ext = .ok i) : Reads op w ext i := by
  have hb : baseLen op = 4 := (formatOf_some hf).2
  have he : extCount op w =
      (if bitField w 13 then extLen (field5 w 19) else 0) + (if bitField w 24 then extLen (field5 w 8) else 0) := by
    simp only [extCount, hf]
  rw [hb] at hw
  cases hu : bitField w 24 <;> cases hi : bitField w 13
  all_goals
    simp only [decodeWord, hf, hi, hu, orUnassigned_ok, withImm_ok, Option.map_eq_some_iff, Bool.false_eq_true, if_false, if_true] at h
  case false.false =>
    obtain ⟨c, hc, rfl⟩ := h
    have hstands := opSdbjs_standsIn hc (regField w 8) (regField w 14) (regField w 27) (regField w 19)
      (BitVec.ofNat 2 (w / 2 ^ 25))
    rw [← hu, encDrst_of_word hw hop hi] at hstands
    exact reads_base hb (by rw [he, hi, hu]; rfl) hstands
  case false.true =>
    obtain ⟨n, hn, c, hc, rfl⟩ := h
    have hstands := opSdbjn_standsIn hc (regField w 8) (regField w 14) (regField w 27) n (BitVec.ofNat 2 (w / 2 ^ 25))
    rw [← hu, encDrnt_of_word hw hop hi (ext_of_decodeImm (field5_lt w 19) hn).1] at hstands
    exact reads_imm hb (by rw [he, hi, hu]; rfl) (field5_lt w 19) hn hstands
  case true.false =>
    obtain ⟨m, hm, c, hc, rfl⟩ := h
    have hstands := opMbjs_standsIn hc m (regField w 14) (regField w 27) (regField w 19) (BitVec.ofNat 2 (w / 2 ^ 25))
    rw [encMbjs_of_word hw hop hi hu (ext_of_decodeImm (field5_lt w 8) hm).1] at hstands
    exact reads_imm hb (by rw [he, hi, hu]; exact Nat.zero_add _) (field5_lt w 8) hm hstands
  case true.true =>
    obtain ⟨n, hn, m, hm, c, hc, rfl⟩ := h
    have hstands := opMbjn_standsIn hc m (regField w 14) (regField w 27) n (BitVec.ofNat 2 (w / 2 ^ 25))
    rw [encMbjn_of_word hw hop hi hu (ext_of_decodeImm (field5_lt w 19) hn).1 (ext_of_decodeImm (field5_lt w 8) hm).1] at hstands
    exact reads_two_imms hb (by rw [he, hi, hu]; rfl) (field5_lt w 19) (field5_lt w 8) hn hm hstands

theorem encVect_of_word (hw : w < 256 ^ 3) (hop : w % 256 = 0x32) :
    encode (.vect (regField w 8) (BitVec.ofNat 11 (w / 2 ^ 13))) = leBytes 3 w := by
  have hd : (regField w 8 : Nat) = w / 2 ^ 8 % 32 := rfl
  rw [encode, hd, BitVec.toNat_ofNat]
  congr 1
  omega

/-- The opcode of a format that only one opcode has. -/
def Format.soleOpcode : Format → Option Nat
  | .bb => some 0x06
  | .dcn24 => some 0x07
  | .dan8 => some 0x08
  | .dn => some 0x32
  | .loop => some 0x33
  | .ds => some 0x37
  | .dcn32 => some 0x47
  | .dan16 => some 0x48
  | .dan24 => some 0x88
  | .dan32 => some 0xC8
  | _ => none

theorem eq_soleOpcode {f : Format} {c : Nat} (hc : f.soleOpcode = some c) (hf : formatOf op = some f) : op = c := by
  unfold formatOf at hf
  split at hf <;> cases hf <;> cases hc <;> rfl

theorem reads_bb (hop : w % 256 = 0x06) (hw : w < 256 ^ 3) (h : decodeWord 0x06 w ext = .ok i) : Reads 0x06 w ext i := by
  simp only [decodeWord, formatOf, withImm_ok, Except.ok.injEq] at h
  obtain ⟨n, hn, rfl⟩ := h
  have hword := encDrn_of_word hw hop (ext_of_decodeImm (field5_lt w 19) hn).1
  refine reads_imm (k := 3) rfl rfl (field5_lt w 19) hn (hword ▸ ?_)
  cases bitField w 13 <;> exact ⟨rfl, rfl, rfl⟩

theorem reads_loop (hop : w % 256 = 0x33) (hw : w < 256 ^ 3) (h : decodeWord 0x33 w ext = .ok i) : Reads 0x33 w ext i := by
  simp only [decodeWord, formatOf, Except.ok.injEq] at h
  cases hi : bitField w 13
  all_goals
    simp only [hi, Bool.false_eq_true, if_false, if_true] at h
    obtain rfl := h
    refine reads_base (k := 3) rfl rfl ⟨rfl, rfl, ?_⟩
    rw [encode]
  case false => exact encDrs_of_word hw hop hi
  case true =>
    have hword := word24_of_fields w hw
    have hbit := bitField_toNat w 13
    rw [hi] at hbit
    rw [hop, ← hbit] at hword
    rw [BitVec.toNat_ofNat]
    exact congrArg (leBytes 3) hword

theorem reads_ldi {k b : Nat} {c : RegNum → TyCode → BitVec b → Instr} (hb : baseLen op = k) (he : extCount op w = 0)
    (hc : ∀ d a n, StandsIn (c d a n) k (encDan k op d a n.toNat)) (hw : w < 256 ^ k) (hk : 256 ^ k = 2 ^ b * 2 ^ 16)
    (hop : w % 256 = op) (h : ldiOf op w (fun d a => c d a (BitVec.ofNat b (w / 2 ^ 16))) = .ok i) : Reads op w ext i := by
  obtain ⟨hx, rfl⟩ := ldiOf_ok.mp h
  have hstands := hc (regField w 8) (TyCode.ofField (w / 2 ^ 14 % 4)) (BitVec.ofNat b (w / 2 ^ 16))
  rw [encDan_of_word hw hk hop hx] at hstands
  exact reads_base hb he hstands

theorem reads_ds (hop : w % 256 = 0x37) (hw : w < 256 ^ 3) (h : decodeWord 0x37 w ext = .ok i) : Reads 0x37 w ext i := by
  simp only [decodeWord, formatOf] at h
  split at h
  case h_1 m hm =>
    obtain rfl := Except.ok.inj h
    have hstands := singleInstr_standsIn hm (regField w 8) (regField w 19) (bitField w 13)
    have hword := word24_of_fields w hw
    rw [hop, ← bitField_toNat] at hword
    have hbytes : leBytes 3 (word24 (regField w 19) (regField w 14) (bitField w 13).toNat (regField w 8) 0x37) = leBytes 3 w :=
      congrArg (leBytes 3) hword
    rw [hbytes] at hstands
    exact reads_base (k := 3) rfl rfl hstands
  case h_2 => cases h

/-- The decoder looks at every bit: format by format, what it reads is the encoding of what it answers. -/
theorem reads_of_decodeWord (hw : w < 256 ^ baseLen op) (hop : w % 256 = op) (h : decodeWord op w ext = .ok i) :
    Reads op w ext i := by
  cases hf : formatOf op with
  | none => simp only [decodeWord, hf, reduceCtorEq] at h
  | some f =>
    have hb := (formatOf_some hf).2
    cases f
    case n24 => exact reads_disp hop (.inl hf) hw h
    case n32 => exact reads_disp hop (.inr hf) hw h
    case drsn => exact reads_short hop (.inl hf) hw h
    case dbjn24 => exact reads_short hop (.inr hf) hw h
    case drstn => exact reads_long hop (.inl hf) hw h
    case mem32 => exact reads_long hop (.inr hf) hw h
    case store32 => exact reads_store hop hf hw h
    all_goals
      rw [hb] at hw
    case n8 =>
      simp only [decodeWord, hf, orUnassigned_ok] at h
      have hword : w = op := by simp only [Format.len] at hw; omega
      exact reads_base hb (by simp only [extCount, hf]) (hword ▸ opN8_standsIn h)
    case raw16 =>
      simp only [decodeWord, hf, orUnassigned_ok, Option.map_eq_some_iff] at h
      obtain ⟨c, hc, rfl⟩ := h
      have hstands := opRaw16_standsIn hc (BitVec.ofNat 16 (w / 2 ^ 8))
      rw [field_of_word hw (by decide) hop] at hstands
      exact reads_base hb (by simp only [extCount, hf]) hstands
    case raw24 =>
      simp only [decodeWord, hf, orUnassigned_ok, Option.map_eq_some_iff] at h
      obtain ⟨c, hc, rfl⟩ := h
      have hstands := opRaw24_standsIn hc (BitVec.ofNat 24 (w / 2 ^ 8))
      rw [field_of_word hw (by decide) hop] at hstands
      exact reads_base hb (by simp only [extCount, hf]) hstands
    case bb =>
      obtain rfl := eq_soleOpcode rfl hf
      exact reads_bb hop hw h
    case loop =>
      obtain rfl := eq_soleOpcode rfl hf
      exact reads_loop hop hw h
    case ds =>
      obtain rfl := eq_soleOpcode rfl hf
      exact reads_ds hop hw h
    case dcn24 =>
      obtain rfl := eq_soleOpcode rfl hf
      obtain rfl := Except.ok.inj h
      have hstands := br24Of_standsIn (Nat.mod_lt (w / 2 ^ 13) (y := 8) (by decide)) (regField w 8) (BitVec.ofNat 8 (w / 2 ^ 16))
      rw [encDcn24_of_word hw hop] at hstands
      exact reads_base (k := 3) rfl rfl hstands
    case dcn32 =>
      obtain rfl := eq_soleOpcode rfl hf
      obtain rfl := Except.ok.inj h
      have hstands := br32Of_standsIn (Nat.mod_lt (w / 2 ^ 13) (y := 8) (by decide)) (regField w 8) (BitVec.ofNat 16 (w / 2 ^ 16))
      rw [encDcn32_of_word hw hop] at hstands
      exact reads_base (k := 4) rfl rfl hstands
    case dn =>
      obtain rfl := eq_soleOpcode rfl hf
      obtain rfl := Except.ok.inj h
      exact reads_base (k := 3) rfl rfl ⟨rfl, rfl, encVect_of_word hw hop⟩
    case dan8 =>
      obtain rfl := eq_soleOpcode rfl hf
      exact reads_ldi (c := .ldi8) hb rfl (fun _ _ _ => ⟨rfl, rfl, rfl⟩) hw (by decide) hop h
    case dan16 =>
      obtain rfl := eq_soleOpcode rfl hf
      exact reads_ldi (c := .ldi16) hb rfl (fun _ _ _ => ⟨rfl, rfl, rfl⟩) hw (by decide) hop h
    case dan24 =>
      obtain rfl := eq_soleOpcode rfl hf
      exact reads_ldi (c := .ldi24) hb rfl (fun _ _ _ => ⟨rfl, rfl, rfl⟩) hw (by decide) hop h
    case dan32 =>
      obtain rfl := eq_soleOpcode rfl hf
      exact reads_ldi (c := .ldi32) hb rfl (fun _ _ _ => ⟨rfl, rfl, rfl⟩) hw (by decide) hop h
end

/-- What decodes from bytes decodes from the base its opcode byte announces and the bytes after that base. -/
theorem reads_of_decode {b : Byte} {tail : List Byte} {i : Instr} (h : decode (b :: tail) = .ok i) :
    baseLen b.toNat ≤ (b :: tail).length ∧
      Reads b.toNat (leNat ((b :: tail).take (baseLen b.toNat))) ((b :: tail).drop (baseLen b.toNat)) i := by
  dsimp only [decode] at h
  split at h
  case isTrue => cases h
  case isFalse hlen =>
    have hle := Nat.le_of_not_lt hlen
    have hlt := leNat_lt ((b :: tail).take (baseLen b.toNat))
    rw [List.length_take_of_le hle] at hlt
    have hop : leNat ((b :: tail).take (baseLen b.toNat)) % 256 = b.toNat := by
      obtain ⟨k, hk⟩ := Nat.exists_eq_succ_of_ne_zero (baseLen_pos b.toNat).ne'
      rw [hk, List.take_succ_cons, leNat_cons_mod]
    exact ⟨hle, reads_of_decodeWord hlt hop h⟩

theorem encode_of_decode {bs : List Byte} {i : Instr} (h : decode bs = .ok i) :
    ∃ op w ext, bs = leBytes (baseLen op) w ++ ext ∧ Reads op w ext i := by
  cases bs with
  | nil => cases h
  | cons b tail =>
    obtain ⟨hle, hreads⟩ := reads_of_decode h
    have hbytes := leBytes_leNat ((b :: tail).take (baseLen b.toNat))
    rw [List.length_take_of_le hle] at hbytes
    exact ⟨_, _, _, by rw [hbytes, List.take_append_drop], hreads⟩

end Sys2Proof

namespace Sys2Proof.Proofs.Encoding

/-- Settles O2: what the decoder reads stands in the base and the extension bytes the base announces. -/
theorem encodeDecode : Obligations.EncodeDecode := by
  unfold Obligations.EncodeDecode
  intro bs i h
  obtain ⟨op, w, ext, rfl, hheld, hstands⟩ := encode_of_decode h
  refine ⟨hstands.wf, ?_, ?_⟩
  · rw [hstands.length, List.length_append, leBytes_length]
    omega
  · rw [hstands.length, hstands.bytes, List.take_append, leBytes_length, Nat.add_sub_cancel_left]
    simp

end Sys2Proof.Proofs.Encoding
end

section
/-!
What a step can do to memory and to the record of port events: nothing, one store, or one event (20_memory.md sections 1
to 3, 44_loadstore.md section 7). The statements about memory and events follow from this alone.
-/
namespace Sys2Proof.Machine

/-! ## Instructions that leave memory and events alone -/

/-- Memory and the record of events are as before. -/
structure Quiet (s t : State) : Prop where
  mem : t.mem = s.mem
  events : t.events = s.events

theorem Ends.quiet {s t : State} {npc : Word} {d : RegNum} (h : Ends s t npc d) : Quiet s t := ⟨h.mem, h.events⟩

theorem condBranch_quiet {s t : State} {c : Cond} {npc disp : Word} {d : RegNum} (h : condBranch c npc d disp s = .next t) :
    Quiet s t := by
  simp only [condBranch, outcome_next, bind_ok, pure_ok] at h
  obtain ⟨_, _, _, _, rfl⟩ := h
  exact ⟨rfl, rfl⟩

theorem bitBranch_quiet {s t : State} {i : Bool} {d r : RegNum} {n : Imm5} (h : bitBranch i d r n s = .next t) : Quiet s t := by
  simp only [bitBranch, outcome_next, bind_ok, pure_ok] at h
  obtain ⟨_, _, rfl⟩ := h
  exact ⟨rfl, rfl⟩

theorem alignTo_quiet {s t : State} {k : Nat} (h : alignTo k s = .next t) : Quiet s t := by
  simp only [alignTo, outcome_next, bind_ok, pure_ok] at h
  obtain ⟨_, _, rfl⟩ := h
  exact ⟨rfl, rfl⟩

theorem callTo_quiet (npc : Word) (d : RegNum) (ea : Word) (s : State) : Quiet s (callTo npc d ea s) := by
  unfold callTo
  split
  · exact ⟨rfl, rfl⟩
  · exact ⟨s.setReg_mem d _, s.setReg_events d _⟩

theorem execCallDbj_quiet {s t : State} {d b j : RegNum} (h : execCallDbj d b j s = .next t) : Quiet s t := by
  simp only [execCallDbj, outcome_next, bind_ok, pure_ok] at h
  obtain ⟨_, _, rfl⟩ := h
  exact callTo_quiet _ _ _ _

theorem execCallDbn_quiet {s t : State} {d b : RegNum} {n : Imm5} (h : execCallDbn d b n s = .next t) : Quiet s t := by
  obtain rfl := Host.Outcome.next.inj h
  exact callTo_quiet _ _ _ _

theorem execCallDbjs_quiet {s t : State} {d b j rs : RegNum} {y : BitVec 2} {u : Bool}
    (h : execCallDbjs d b j rs y u s = .next t) : Quiet s t := by
  simp only [execCallDbjs, outcome_next, bind_ok, pure_ok] at h
  obtain ⟨_, _, _, _, rfl⟩ := h
  exact callTo_quiet _ _ _ _

theorem execCallDbjn_quiet {s t : State} {d b j : RegNum} {n : Imm5} {y : BitVec 2} {u : Bool}
    (h : execCallDbjn d b j n y u s = .next t) : Quiet s t := by
  simp only [execCallDbjn, outcome_next, bind_ok, pure_ok] at h
  obtain ⟨_, _, _, _, rfl⟩ := h
  exact callTo_quiet _ _ _ _

theorem execCallr_quiet {s t : State} {n : Disp} (h : execCallr n s = .next t) : Quiet s t := by
  obtain rfl := Host.Outcome.next.inj h
  exact ⟨s.setReg_mem 0 { val := s.npc n.length, ty := .u }, s.setReg_events 0 { val := s.npc n.length, ty := .u }⟩

theorem execBr_quiet {s t : State} {n : Disp} (h : execBr n s = .next t) : Quiet s t := by
  obtain rfl := Host.Outcome.next.inj h
  exact ⟨rfl, rfl⟩

theorem loadImm_quiet {s t : State} {w len : Nat} {d : RegNum} {a : TyCode} {n : BitVec w} (h : loadImm len d a n s = .next t) :
    Quiet s t := by
  obtain rfl := Host.Outcome.next.inj h
  exact ⟨s.writeBack_mem _ _ _ _ _, s.writeBack_events _ _ _ _ _⟩

/-! ## Stores -/

/-- The instruction ended in the store procedure. -/
def StoredBy (s t : State) : Prop := ∃ ds npc ea v, store ds npc ea v s = .ok t

theorem storeDbj_storedBy {s t : State} {ds : Nat} {d b j : RegNum} (h : storeDbj ds d b j s = .next t) : StoredBy s t := by
  simp only [storeDbj, outcome_next, bind_ok] at h
  obtain ⟨_, _, h⟩ := h
  exact ⟨_, _, _, _, h⟩

theorem storeDbn_storedBy {s t : State} {ds : Nat} {d b : RegNum} {n : Imm5} (h : storeDbn ds d b n s = .next t) : StoredBy s t := by
  simp only [storeDbn, outcome_next, bind_ok] at h
  obtain ⟨_, _, h⟩ := h
  exact ⟨_, _, _, _, h⟩

theorem storeDbjs_storedBy {s t : State} {ds : Nat} {d b j rs : RegNum} {y : BitVec 2} (h : storeDbjs ds d b j rs y s = .next t) :
    StoredBy s t := by
  simp only [storeDbjs, outcome_next, bind_ok] at h
  obtain ⟨_, _, h⟩ := h
  exact ⟨_, _, _, _, h⟩

theorem storeDbjn_storedBy {s t : State} {ds : Nat} {d b j : RegNum} {n : Imm5} {y : BitVec 2}
    (h : storeDbjn ds d b j n y s = .next t) : StoredBy s t := by
  simp only [storeDbjn, outcome_next, bind_ok] at h
  obtain ⟨_, _, h⟩ := h
  exact ⟨_, _, _, _, h⟩

theorem storeMbjs_storedBy {s t : State} {ds : Nat} {m : Imm5} {b j rs : RegNum} {y : BitVec 2}
    (h : storeMbjs ds m b j rs y s = .next t) : StoredBy s t := by
  simp only [storeMbjs, outcome_next, bind_ok] at h
  obtain ⟨_, _, h⟩ := h
  exact ⟨_, _, _, _, h⟩

theorem storeMbjn_storedBy {s t : State} {ds : Nat} {m : Imm5} {b j : RegNum} {n : Imm5} {y : BitVec 2}
    (h : storeMbjn ds m b j n y s = .next t) : StoredBy s t := by
  simp only [storeMbjn, outcome_next, bind_ok] at h
  obtain ⟨_, _, h⟩ := h
  exact ⟨_, _, _, _, h⟩

/-! ## Ports -/

/-- Memory is as before and one event is recorded. -/
structure Records (s t : State) : Prop where
  mem : t.mem = s.mem
  events : ∃ e, t.events = s.events ++ [e]

theorem execInp_records {s t : State} {d rs : RegNum} {z : Bool} (h : execInp d rs z s = .next t) : Records s t := by
  simp only [execInp, outcome_next, bind_ok, pure_ok] at h
  obtain ⟨_, _, _, _, rfl⟩ := h
  exact ⟨State.writeBack_mem _ _ _ _ _ _, _, State.writeBack_events _ _ _ _ _ _⟩

theorem execOut_records {s t : State} {d rs : RegNum} {z : Bool} (h : execOut d rs z s = .next t) : Records s t := by
  simp only [execOut, outcome_next, bind_ok, pure_ok] at h
  obtain ⟨_, _, _, _, rfl⟩ := h
  exact ⟨rfl, _, rfl⟩

/-! ## Every instruction -/

/-- What an instruction that answers a next state did to memory and events, by the kind of instruction. -/
inductive Effect (i : Instr) (s t : State) : Prop
  | quiet (h : Quiet s t)
  | stored (hi : storesMemory i = true) (h : StoredBy s t)
  | recorded (hi : usesPorts i = true) (h : Records s t)

theorem exec_effect {i : Instr} {s t : State} (h : exec i s = .next t) : Effect i s t := by
  cases i
  all_goals dsimp only [exec] at h
  case st8Dbj | st16Dbj | st24Dbj | st32Dbj => exact .stored rfl (storeDbj_storedBy h)
  case st8Dbn | st16Dbn | st24Dbn | st32Dbn => exact .stored rfl (storeDbn_storedBy h)
  case st8Dbjs | st16Dbjs | st24Dbjs | st32Dbjs => exact .stored rfl (storeDbjs_storedBy h)
  case st8Dbjn | st16Dbjn | st24Dbjn | st32Dbjn => exact .stored rfl (storeDbjn_storedBy h)
  case st8Mbjs | st16Mbjs | st24Mbjs | st32Mbjs => exact .stored rfl (storeMbjs_storedBy h)
  case st8Mbjn | st16Mbjn | st24Mbjn | st32Mbjn => exact .stored rfl (storeMbjn_storedBy h)
  case inp => exact .recorded rfl (execInp_records h)
  case out => exact .recorded rfl (execOut_records h)
  case br => exact .quiet (execBr_quiet h)
  case callr => exact .quiet (execCallr_quiet h)
  case bbs | bbc => exact .quiet (bitBranch_quiet h)
  case brz24 | brgz24 | brgez24 | brev24 | brnz24 | brlez24 | brlz24 | brod24 | brz32 | brgz32 | brgez32 | brev32 | brnz32 |
      brlez32 | brlz32 | brod32 =>
    exact .quiet (condBranch_quiet h)
  case nxth | nxtw => exact .quiet (alignTo_quiet h)
  case callDbj => exact .quiet (execCallDbj_quiet h)
  case callDbn => exact .quiet (execCallDbn_quiet h)
  case callDbjs => exact .quiet (execCallDbjs_quiet h)
  case callDbjn => exact .quiet (execCallDbjn_quiet h)
  case ldi8 | ldi16 | ldi24 | ldi32 => exact .quiet (loadImm_quiet h)
  case ldu8Dbj | ldu16Dbj | ldu24Dbj | ldu32Dbj | ld8Dbj | ld16Dbj | ld24Dbj | ld32Dbj | fld8Dbj | fld16Dbj | fld24Dbj |
      fld32Dbj | pld8Dbj | pld16Dbj | pld24Dbj | pld32Dbj =>
    exact .quiet (loadDbj_ends h).quiet
  case ldu8Dbn | ldu16Dbn | ldu24Dbn | ldu32Dbn | ld8Dbn | ld16Dbn | ld24Dbn | ld32Dbn | fld8Dbn | fld16Dbn | fld24Dbn |
      fld32Dbn | pld8Dbn | pld16Dbn | pld24Dbn | pld32Dbn =>
    exact .quiet (loadDbn_ends h).quiet
  case ldu8Dbjs | ldu16Dbjs | ldu24Dbjs | ldu32Dbjs | ld8Dbjs | ld16Dbjs | ld24Dbjs | ld32Dbjs | fld8Dbjs | fld16Dbjs |
      fld24Dbjs | fld32Dbjs | pld8Dbjs | pld16Dbjs | pld24Dbjs | pld32Dbjs =>
    exact .quiet (loadDbjs_ends h).quiet
  case ldu8Dbjn | ldu16Dbjn | ldu24Dbjn | ldu32Dbjn | ld8Dbjn | ld16Dbjn | ld24Dbjn | ld32Dbjn | fld8Dbjn | fld16Dbjn |
      fld24Dbjn | fld32Dbjn | pld8Dbjn | pld16Dbjn | pld24Dbjn | pld32Dbjn =>
    exact .quiet (loadDbjn_ends h).quiet
  case lea8Dbjs | lea16Dbjs | lea24Dbjs | lea32Dbjs => exact .quiet (leaDbjs_ends h).quiet
  case lea8Dbjn | lea16Dbjn | lea24Dbjn | lea32Dbjn => exact .quiet (leaDbjn_ends h).quiet
  case add | addnu | sub | subnu | mul | mulnu => exact .quiet (arith2_ends h).quiet
  case addi | addnui | subi | subnui | muli | mulnui => exact .quiet (arith2I_ends h).quiet
  case add3 | sub3 | mac => exact .quiet (arith3_ends h).quiet
  case add3i | sub3i | maci => exact .quiet (arith3I_ends h).quiet
  case cmp => exact .quiet (execCmp_ends h).quiet
  case cmpi => exact .quiet (execCmpi_ends h).quiet
  case and | or | xor => exact .quiet (bool2_ends h).quiet
  case andi | ori | xori => exact .quiet (bool2I_ends h).quiet
  case and3 | or3 | xor3 => exact .quiet (bool3_ends h).quiet
  case and3i | or3i | xor3i => exact .quiet (bool3I_ends h).quiet
  case div | divnu => exact .quiet (divide2_ends h).quiet
  case divi | divnui => exact .quiet (divide2I_ends h).quiet
  case ddiv => exact .quiet (execDdiv_ends h).quiet
  case ddivi => exact .quiet (execDdivi_ends h).quiet
  case lsr | asr | ror => exact .quiet (shift1_ends h).quiet
  case lsri | asri | rori => exact .quiet (shift1I_ends h).quiet
  case shr | asrD | rorD => exact .quiet (shift2_ends h).quiet
  case shri | asriD | roriD => exact .quiet (shift2I_ends h).quiet
  case extrct | extrcti => exact .quiet (extract1_ends h).quiet
  case extrctD | extrctiD => exact .quiet (extract2_ends h).quiet
  case insrt | insrti => exact .quiet (insert2_ends h).quiet
  case max | min => exact .quiet (select2_ends h).quiet
  case maxi | mini => exact .quiet (select2I_ends h).quiet
  case max3 | min3 | median3 => exact .quiet (select3_ends h).quiet
  case max3i | min3i | median3I => exact .quiet (select3I_ends h).quiet
  case neg | inc | dec | abs | nabs | ldzcnt | ld1cnt | trzcnt | tr1cnt | popcnt => exact .quiet (single_ends h).quiet
  case mov => exact .quiet (execMov_ends h).quiet
  case not => exact .quiet (execNot_ends h).quiet
  case sqrt => exact .quiet (execSqrt_ends h).quiet
  case trap | brk | enter | exit | loop | loopi | vect | pcb1 | pcnd | intp | lut | cmov | container32 | mmov | stm | ldm | tt |
      sinpi | cospi | tanpi | asinpi | acospi | atanpi | int | flt | expon | fract | fsqrt | frsqrt | frcp | ln2p1 | ln2 |
      exp2m1 | exp2 | rnd | rndtev | rndtod | rndtz | rndfz | ceil | floor | cvt | lnp1 | ln | logp1 | log | expm1 | exp |
      exp10m1 | exp10 | sin | cos | tan | asin | acos | atan | movi | merg | eadd | mv2 | shl =>
    exact nomatch h

/-- A step that answers a next state ran some instruction. -/
theorem exec_of_step {s t : State} (h : step s = .next t) : ∃ i, exec i s = .next t := by
  unfold step at h
  split at h
  case h_1 e he =>
    rw [outcome_next] at h
    cases h
  case h_2 bytes hbytes =>
    split at h
    case h_1 i hi => exact ⟨i, h⟩
    case h_2 => exact nomatch h

/-! ## What a store keeps -/

theorem StoredBy.inv {s t : State} (h : StoredBy s t) (hi : s.Inv) : t.Inv := by
  obtain ⟨ds, npc, ea, v, h⟩ := h
  obtain ⟨hheld, -, rfl⟩ := store_ok ds npc ea v s t h
  exact Memory.wf_setBytes s.mem ea _ hi (by simpa using hheld)

theorem StoredBy.map {s t : State} (h : StoredBy s t) : t.mem.map = s.mem.map := by
  obtain ⟨ds, npc, ea, v, h⟩ := h
  obtain ⟨-, -, rfl⟩ := store_ok ds npc ea v s t h
  exact Memory.setBytes_map s.mem ea _

/-- A store reaches only bytes the map holds and does not mark text. -/
theorem StoredBy.byte_of_ne_ram {s t : State} (h : StoredBy s t) {a : Nat} (ha : s.mem.kind a ≠ some .ram) :
    t.mem.byte a = s.mem.byte a := by
  obtain ⟨ds, npc, ea, v, h⟩ := h
  obtain ⟨hheld, hnotText, rfl⟩ := store_ok ds npc ea v s t h
  refine Memory.byte_setBytes_out s.mem ea _ a fun k hk => ?_
  rw [natToBytes_length] at hk
  rintro rfl
  have hsome := hheld k hk
  have hne := hnotText k hk
  cases hkind : s.mem.kind (ea + BitVec.ofNat 32 k).toNat with
  | none => rw [hkind] at hsome; cases hsome
  | some kind => cases kind <;> simp_all

theorem StoredBy.events {s t : State} (h : StoredBy s t) : t.events = s.events := by
  obtain ⟨ds, npc, ea, v, h⟩ := h
  obtain ⟨-, -, rfl⟩ := store_ok ds npc ea v s t h
  rfl

end Sys2Proof.Machine

namespace Sys2Proof.Proofs.Effects

open Sys2Proof.Machine

/-- Settles O10: only a store changes memory, and it writes bytes the map holds. -/
theorem stepKeepsInv : Obligations.StepKeepsInv := by
  unfold Obligations.StepKeepsInv
  intro s t hinv h
  obtain ⟨i, h⟩ := exec_of_step h
  cases exec_effect h with
  | quiet h => rwa [State.Inv, h.mem]
  | stored _ h => exact h.inv hinv
  | recorded _ h => rwa [State.Inv, h.mem]

/-- Settles O11: only a store changes memory, and it checks that no byte it writes is text. -/
theorem stepKeepsText : Obligations.StepKeepsText := by
  unfold Obligations.StepKeepsText
  intro s t h
  obtain ⟨i, h⟩ := exec_of_step h
  cases exec_effect h with
  | quiet h => exact ⟨by rw [h.mem], fun a _ => by rw [h.mem]⟩
  | stored _ h => exact ⟨h.map, fun a => h.byte_of_ne_ram⟩
  | recorded _ h => exact ⟨by rw [h.mem], fun a _ => by rw [h.mem]⟩

/-- Settles O12: the three effects, each tied to its kind of instruction. -/
theorem onlyStoresWriteMemory : Obligations.OnlyStoresWriteMemory := by
  unfold Obligations.OnlyStoresWriteMemory
  refine ⟨fun i s t h => ?instruction, fun s t h => ?step⟩
  case instruction =>
    cases exec_effect h with
    | quiet h => exact ⟨fun _ => h.mem, fun _ => h.events⟩
    | stored hi h => exact ⟨fun hn => absurd (hn.symm.trans hi) Bool.false_ne_true, fun _ => h.events⟩
    | recorded hi h => exact ⟨fun _ => h.mem, fun hn => absurd (hn.symm.trans hi) Bool.false_ne_true⟩
  case step =>
    obtain ⟨i, h⟩ := exec_of_step h
    cases exec_effect h with
    | quiet h => exact ⟨[], by rw [h.events, List.append_nil], Nat.zero_le 1⟩
    | stored _ h => exact ⟨[], by rw [h.events, List.append_nil], Nat.zero_le 1⟩
    | recorded _ h =>
      obtain ⟨e, he⟩ := h.events
      exact ⟨[e], he, Nat.le_refl 1⟩

end Sys2Proof.Proofs.Effects
end

section
/-!
Fetching and the step around `exec` (30_encoding.md R92, 60_exceptions.md R373 steps 1 to 3): what a fetch answers where the
bytes can be fetched, where it stops, and the statements made of the two.
-/
namespace Sys2Proof

/-- Bytes as many as their first announces for a base are one base without extension bytes. -/
theorem decode_of_length {b : Byte} {tail : List Byte} (h : (b :: tail).length = baseLen b.toNat) :
    decode (b :: tail) = decodeWord b.toNat (leNat (b :: tail)) [] := by
  simp only [decode, ← h, lt_irrefl, if_false, List.take_length, List.drop_length]

/-! ## Opcodes that stand for no instruction (30_encoding.md R112) -/

section
variable {op : Nat}

/-- R109 to R111: the opcodes to which the source assigns nothing. -/
theorem formatOf_of_unassigned
    (hop : op ∈ [0x09, 0x30, 0x31, 0x38, 0x39, 0x3A, 0x3B, 0x3C, 0x3D, 0x3E, 0x3F, 0x40, 0x41, 0x42, 0x43, 0x46] ++
      [0x49, 0x4A, 0x4B, 0x78, 0x79] ∨ (0x80 ≤ op ∧ op ≠ 0x88 ∧ op ≠ 0xC8)) : formatOf op = none := by
  by_contra h
  obtain ⟨f, hf⟩ := Option.ne_none_iff_exists'.mp h
  unfold formatOf at hf
  split at hf <;> cases hf <;> exact absurd hop (by decide)

theorem extCount_of_unassigned (h : formatOf op = none) (w : Nat) : extCount op w = 0 := by
  rw [extCount, h]

theorem decodeWord_of_unassigned (h : formatOf op = none) (w : Nat) (ext : List Byte) :
    decodeWord op w ext = .error (.unassignedOpcode op) := by
  rw [decodeWord, h]

/-- LDI8 to LDI32 take no extension bytes, and their base has more bytes than the opcode. -/
theorem extCount_of_ldi (hop : op ∈ [0x08, 0x48, 0x88, 0xC8]) (w : Nat) : extCount op w = 0 ∧ 2 ≤ baseLen op := by
  fin_cases hop <;> exact ⟨rfl, by decide⟩

/-- R112: bit 13 of an LDI is reserved. -/
theorem decodeWord_of_xBit {w : Nat} (hop : op ∈ [0x08, 0x48, 0x88, 0xC8]) (hx : bitField w 13 = true) (ext : List Byte) :
    decodeWord op w ext = .error (.ldiXBit op) := by
  have hldi : ∀ c, ldiOf op w c = .error (.ldiXBit op) := fun c => by rw [ldiOf, if_pos hx]
  have hformat : formatOf op = some .dan8 ∨ formatOf op = some .dan16 ∨ formatOf op = some .dan24 ∨ formatOf op = some .dan32 := by
    fin_cases hop <;> decide
  obtain h | h | h | h := hformat
  all_goals simp only [decodeWord, h, hldi]

theorem decodeWord_of_subop24 {w : Nat} (h : subop24 (regField w 14) = none) (ext : List Byte) :
    decodeWord 0x37 w ext = .error (.unassignedSubOpcode (regField w 14).val) := by
  have hds : formatOf 0x37 = some .ds := rfl
  simp only [decodeWord, hds, h]

end

/-- Bit 13 of a word lies in its second byte. -/
theorem bitField_second_byte (b c : Byte) (rest : List Byte) : bitField (leNat (b :: c :: rest)) 13 = c.getLsbD 5 := by
  refine bitField_eq ?_
  have hb : b.toNat < 256 := b.isLt
  have hbit : (c.getLsbD 5).toNat = c.toNat / 2 ^ 5 % 2 := by
    rw [BitVec.getLsbD, Nat.toNat_testBit]
  rw [hbit]
  simp only [leNat]
  omega

/-- The sub-opcode, bits 18:14 of a word of three bytes, lies in the second and the third. -/
theorem regField_subOpcode (b c e : Byte) {k : RegNum} (h : k.val = (c.toNat + 256 * e.toNat) / 2 ^ 6 % 32) :
    regField (leNat [b, c, e]) 14 = k := by
  refine regField_eq ?_
  have hb : b.toNat < 256 := b.isLt
  simp only [leNat]
  omega

end Sys2Proof

namespace Sys2Proof.Machine

/-! ## The bytes at an address -/

theorem bytesAt_succ (s : State) (a n : Nat) : bytesAt s a (n + 1) = s.mem.byte a :: bytesAt s (a + 1) n := rfl

theorem bytesAt_add (s : State) (a m n : Nat) : bytesAt s a (m + n) = bytesAt s a m ++ bytesAt s (a + m) n := by
  rw [bytesAt, bytesAt, bytesAt, ← List.map_append, List.range'_append_1]

theorem bytesAt_length (s : State) (a n : Nat) : (bytesAt s a n).length = n := by simp [bytesAt]

theorem bytesAt_take (s : State) (a m n : Nat) : (bytesAt s a (m + n)).take m = bytesAt s a m := by
  rw [bytesAt_add, List.take_append_of_le_length (bytesAt_length s a m).ge, List.take_of_length_le (bytesAt_length s a m).le]

theorem Fetchable.of_add {s : State} {a m n : Nat} (h : Fetchable s a (m + n)) : Fetchable s a m ∧ Fetchable s (a + m) n := by
  obtain ⟨hend, htext⟩ := h
  refine ⟨⟨by omega, fun k hk => htext k (by omega)⟩, ⟨by omega, fun k hk => ?_⟩⟩
  rw [Nat.add_assoc]
  exact htext (m + k) (by omega)

/-! ## One piece of a fetch -/

theorem firstAddr_eq_none {p : Nat → Bool} {a n : Nat} (h : ∀ k < n, p (a + k) = false) : firstAddr p a n = none := by
  induction n generalizing a with
  | zero => rfl
  | succ n ih =>
    rw [firstAddr, if_neg (by simpa using h 0 n.succ_pos)]
    exact ih fun k hk => by rw [Nat.add_right_comm]; exact h (k + 1) (by omega)

theorem firstAddr_eq_some {p : Nat → Bool} {a n k : Nat} (hk : k < n) (hbefore : ∀ j < k, p (a + j) = false)
    (hat : p (a + k) = true) : firstAddr p a n = some (a + k) := by
  induction k generalizing a n with
  | zero =>
    cases n with
    | zero => cases hk
    | succ n => exact if_pos hat
  | succ k ih =>
    cases n with
    | zero => cases hk
    | succ n =>
      rw [firstAddr, if_neg (by simpa using hbefore 0 k.succ_pos)]
      have hshift : ∀ j, a + 1 + j = a + (j + 1) := fun j => Nat.add_right_comm a 1 j
      rw [ih (Nat.lt_of_succ_lt_succ hk) (fun j hj => by rw [hshift]; exact hbefore (j + 1) (by omega))
        (by rw [hshift]; exact hat), hshift]

theorem fetchBytes_of_fetchable {s : State} {a n : Nat} (h : Fetchable s a n) : fetchBytes s.mem a n = .ok (bytesAt s a n) :=
  fetchBytes_of_text s.mem a n h.1 h.2

section
variable {m : Memory} {a n k : Nat}

theorem fetchBytes_wrap (h : 2 ^ 32 < a + n) : fetchBytes m a n = .error (.fault .fetchWrap) := if_pos h

/-- The first byte the map does not hold stops the fetch, whatever the kinds of the bytes around it. -/
theorem fetchBytes_absent (hend : a + n ≤ 2 ^ 32) (hk : k < n) (hbefore : ∀ j < k, (m.kind (a + j)).isSome = true)
    (hat : m.kind (a + k) = none) : fetchBytes m a n = .error (.fault (.memoryAccess (BitVec.ofNat 32 (a + k)))) := by
  have hfirst : firstAddr (fun x => (m.kind x).isNone) a n = some (a + k) :=
    firstAddr_eq_some hk (fun j hj => by simpa [Option.isSome_iff_ne_none] using hbefore j hj) (by rw [hat]; rfl)
  rw [fetchBytes, if_neg (by omega), hfirst]

/-- With all the bytes held, the first that is ram stops the fetch. -/
theorem fetchBytes_ram (hend : a + n ≤ 2 ^ 32) (hk : k < n) (hheld : ∀ j < n, (m.kind (a + j)).isSome = true)
    (hbefore : ∀ j < k, m.kind (a + j) = some .text) (hat : m.kind (a + k) = some .ram) :
    fetchBytes m a n = .error (.fault (.fetchOutsideText (BitVec.ofNat 32 (a + k)))) := by
  have hnone : firstAddr (fun x => (m.kind x).isNone) a n = none :=
    firstAddr_eq_none fun j hj => by simpa [Option.isSome_iff_ne_none] using hheld j hj
  have hfirst : firstAddr (fun x => m.kind x != some .text) a n = some (a + k) :=
    firstAddr_eq_some hk (fun j hj => by rw [hbefore j hj]; rfl) (by rw [hat]; rfl)
  rw [fetchBytes, if_neg (by omega), hnone]
  simp only
  rw [hfirst]

end

/-! ## A fetch of the opcode, the base and the extension bytes -/

section
variable {s : State}

/-- The length of the base at the pc, from the byte there. -/
def State.baseLen (s : State) : Nat := Sys2Proof.baseLen (s.mem.byte s.pc.toNat).toNat

/-- How many extension bytes that base announces. -/
def State.extCount (s : State) : Nat :=
  Sys2Proof.extCount (s.mem.byte s.pc.toNat).toNat (leNat (bytesAt s s.pc.toNat s.baseLen))

theorem fetch_of_opcode_error {e : Stop} (h : fetchBytes s.mem s.pc.toNat 1 = .error e) : fetch s = .error e := by
  simp [fetch, h, bind, Except.bind]

theorem fetch_of_opcode (h : s.mem.kind s.pc.toNat = some .text) :
    fetch s = (fetchBytes s.mem s.pc.toNat s.baseLen >>= fun base =>
      fetchBytes s.mem (s.pc.toNat + s.baseLen) (Sys2Proof.extCount (s.mem.byte s.pc.toNat).toNat (leNat base)) >>= fun ext =>
        pure (base ++ ext)) := by
  have hone : Fetchable s s.pc.toNat 1 := ⟨s.pc.isLt, fun k hk => by rwa [Nat.lt_one_iff.mp hk]⟩
  have hop : leNat (bytesAt s s.pc.toNat 1) = (s.mem.byte s.pc.toNat).toNat := rfl
  simp only [fetch, fetchBytes_of_fetchable hone, hop, bind, Except.bind, State.baseLen]

theorem fetch_of_base_error {e : Stop} (h : s.mem.kind s.pc.toNat = some .text)
    (hbase : fetchBytes s.mem s.pc.toNat s.baseLen = .error e) : fetch s = .error e := by
  rw [fetch_of_opcode h, hbase]
  rfl

/-- Where the base can be fetched its opcode byte can. -/
theorem Fetchable.opcode (h : Fetchable s s.pc.toNat s.baseLen) : s.mem.kind s.pc.toNat = some .text :=
  h.2 0 (baseLen_pos _)

theorem fetch_of_base (h : Fetchable s s.pc.toNat s.baseLen) :
    fetch s = (fetchBytes s.mem (s.pc.toNat + s.baseLen) s.extCount >>= fun ext =>
      pure (bytesAt s s.pc.toNat s.baseLen ++ ext)) := by
  rw [fetch_of_opcode h.opcode, fetchBytes_of_fetchable h]
  rfl

theorem fetch_of_ext_error {e : Stop} (h : Fetchable s s.pc.toNat s.baseLen)
    (hext : fetchBytes s.mem (s.pc.toNat + s.baseLen) s.extCount = .error e) : fetch s = .error e := by
  rw [fetch_of_base h, hext]
  rfl

theorem fetch_of_fetchable (h : Fetchable s s.pc.toNat (s.baseLen + s.extCount)) :
    fetch s = .ok (bytesAt s s.pc.toNat (s.baseLen + s.extCount)) := by
  obtain ⟨hbase, hext⟩ := h.of_add
  rw [fetch_of_base hbase, fetchBytes_of_fetchable hext, bytesAt_add]
  rfl

/-! ## The step -/

theorem step_of_fetch_error {f : Fault} (h : fetch s = .error (.fault f)) : step s = .fault f := by
  rw [step, h]
  rfl

theorem step_of_decode {bytes : List Byte} {i : Instr} (h : fetch s = .ok bytes) (hi : decode bytes = .ok i) : step s = exec i s := by
  simp only [step, h, hi]

theorem step_of_decode_error {bytes : List Byte} {e : DecodeError} (h : fetch s = .ok bytes) (he : decode bytes = .error e) :
    step s = .fault (.trap .illegalInstruction) := by
  simp only [step, h, he, takeTrap]

/-- An instruction is as long as the base at the pc and the extension bytes that base announces. -/
theorem instrLength_of_decode {n : Nat} {i : Instr} (h : decode (bytesAt s s.pc.toNat n) = .ok i) (hn : instrLength i = n) :
    n = s.baseLen + s.extCount := by
  cases n with
  | zero => cases h
  | succ k =>
    rw [bytesAt_succ] at h
    obtain ⟨hle, hreads⟩ := reads_of_decode h
    have hlen := hreads.stands.length
    rw [← bytesAt_succ] at hlen hle
    rw [bytesAt_length] at hle
    obtain ⟨l, hl⟩ := Nat.exists_eq_add_of_le hle
    have hbase : (bytesAt s s.pc.toNat (k + 1)).take s.baseLen = bytesAt s s.pc.toNat s.baseLen := by
      rw [hl]
      exact bytesAt_take s _ _ l
    rw [← hn, hlen]
    exact congrArg (fun base => s.baseLen + Sys2Proof.extCount _ (leNat base)) hbase

/-- A base that can be fetched, takes no extension bytes and stands for no instruction traps. -/
theorem step_of_decodeWord_error {e : DecodeError} (hbase : Fetchable s s.pc.toNat s.baseLen) (hext : s.extCount = 0)
    (he : decodeWord (s.mem.byte s.pc.toNat).toNat (leNat (bytesAt s s.pc.toNat s.baseLen)) [] = .error e) :
    step s = .fault (.trap .illegalInstruction) := by
  have hfetch : fetch s = .ok (bytesAt s s.pc.toNat s.baseLen) := by
    simpa [hext] using fetch_of_fetchable (s := s) (by rwa [hext])
  refine step_of_decode_error (e := e) hfetch ?_
  obtain ⟨k, hk⟩ := Nat.exists_eq_succ_of_ne_zero (baseLen_pos (s.mem.byte s.pc.toNat).toNat).ne'
  have hlen := bytesAt_length s s.pc.toNat s.baseLen
  have hcons : bytesAt s s.pc.toNat s.baseLen = s.mem.byte s.pc.toNat :: bytesAt s (s.pc.toNat + 1) k :=
    (congrArg (bytesAt s s.pc.toNat) hk).trans (bytesAt_succ s _ k)
  rw [hcons] at hlen he ⊢
  rwa [decode_of_length hlen]

end

/-! ## The state after reset (10_state.md R41) -/

theorem reset_kind {a : Nat} (h : a < 2 ^ 32) :
    State.reset.mem.kind a = some (if 0x1000 ≤ a ∧ a < 0x8000 then .text else .ram) := by
  have htext : 0x1000 + 0x7000 = 0x8000 := rfl
  have hram : 0 ≤ a ∧ a < 0 + 0x100000000 := ⟨a.zero_le, by omega⟩
  simp only [Memory.kind, State.reset, resetMap, regionAt, htext, if_pos hram]
  split <;> rfl

theorem reset_byte (a : Nat) : State.reset.mem.byte a = 0 := rfl

theorem reset_reg {i : RegNum} (h : i ≠ 31) : State.reset.reg i = { val := 0, ty := .u } := by
  simp [State.reg, State.reset, lt31_of_ne h]

end Sys2Proof.Machine

namespace Sys2Proof.Proofs.Fetch

open Sys2Proof.Machine

/-- Settles O5: the bytes the fetch asks for are as many as the instruction is long. -/
theorem stepRunsDecoded : Obligations.StepRunsDecoded := by
  unfold Obligations.StepRunsDecoded
  intro s i hfetchable hdecode
  have hlen := instrLength_of_decode hdecode rfl
  rw [hlen] at hfetchable hdecode
  exact step_of_decode (fetch_of_fetchable hfetchable) hdecode

/-- Settles O6: the opcode, the base and the extension bytes are three pieces, each of which stops in the same three ways. -/
theorem fetchStops : Obligations.FetchStops := by
  unfold Obligations.FetchStops
  intro s a n
  have hone : a + 1 ≤ 2 ^ 32 := s.pc.isLt
  have haddr : ∀ k, BitVec.ofNat 32 (a + k) = s.pc + BitVec.ofNat 32 k := fun k => by
    rw [BitVec.ofNat_add, BitVec.ofNat_toNat, BitVec.setWidth_eq]
  refine ⟨fun hkind => ?opcodeAbsent, fun hkind => ?opcodeRam, fun hkind hwrap => ?baseWrap,
    fun hkind hend k hk => ⟨fun hbefore hat => ?baseAbsent, fun hbefore hat hheld => ?baseRam⟩,
    fun hbase => ⟨fun hwrap => ?extWrap, fun hend k hk => ⟨fun hbefore hat => ?extAbsent, fun hbefore hat hheld => ?extRam⟩⟩⟩
  case opcodeAbsent =>
    have h := fetchBytes_absent (k := 0) hone Nat.one_pos nofun hkind
    rw [haddr, BitVec.add_zero] at h
    exact step_of_fetch_error (fetch_of_opcode_error h)
  case opcodeRam =>
    have h := fetchBytes_ram (k := 0) hone Nat.one_pos (fun j hj => by rw [Nat.lt_one_iff.mp hj, Nat.add_zero, hkind]; rfl) nofun hkind
    rw [haddr, BitVec.add_zero] at h
    exact step_of_fetch_error (fetch_of_opcode_error h)
  case baseWrap => exact step_of_fetch_error (fetch_of_base_error hkind (fetchBytes_wrap hwrap))
  case baseAbsent =>
    rw [← haddr]
    exact step_of_fetch_error (fetch_of_base_error hkind (fetchBytes_absent hend hk hbefore hat))
  case baseRam =>
    rw [← haddr]
    exact step_of_fetch_error (fetch_of_base_error hkind (fetchBytes_ram hend hk hheld hbefore hat))
  case extWrap => exact step_of_fetch_error (fetch_of_ext_error hbase (fetchBytes_wrap hwrap))
  case extAbsent =>
    rw [← haddr, ← Nat.add_assoc]
    exact step_of_fetch_error (fetch_of_ext_error hbase (fetchBytes_absent hend hk hbefore hat))
  case extRam =>
    rw [← haddr, ← Nat.add_assoc]
    exact step_of_fetch_error (fetch_of_ext_error hbase (fetchBytes_ram hend hk hheld hbefore hat))

/-- Settles O7: none of these opcodes takes extension bytes, and at each the decoder stops. -/
theorem illegalInstructions : Obligations.IllegalInstructions := by
  unfold Obligations.IllegalInstructions
  intro s a op hbase
  refine ⟨fun hop => ?unassigned, fun hop hx => ?xBit, fun k hop hk hfield => ?subOpcode⟩
  case unassigned =>
    have hformat : formatOf op = none := formatOf_of_unassigned hop
    exact step_of_decodeWord_error hbase (extCount_of_unassigned hformat _) (decodeWord_of_unassigned hformat _ _)
  case xBit =>
    obtain ⟨hext, hlen⟩ := extCount_of_ldi hop (leNat (bytesAt s a s.baseLen))
    obtain ⟨k, hk⟩ := Nat.exists_eq_add_of_le' hlen
    have hbit : bitField (leNat (bytesAt s a s.baseLen)) 13 = true := by
      rw [← hx, ← bitField_second_byte (s.mem.byte a) _ (bytesAt s (a + 2) k)]
      exact congrArg (fun n => bitField (leNat (bytesAt s a n)) 13) hk
    exact step_of_decodeWord_error hbase hext (decodeWord_of_xBit hop hbit [])
  case subOpcode =>
    have hlen : s.baseLen = 3 := congrArg Sys2Proof.baseLen hop
    have hext : s.extCount = 0 := congrArg (fun n => Sys2Proof.extCount n (leNat (bytesAt s a s.baseLen))) hop
    have hsub : regField (leNat (bytesAt s a s.baseLen)) 14 = k := by
      rw [hlen]
      exact regField_subOpcode _ _ _ hfield
    refine step_of_decodeWord_error hbase hext ?_ (e := .unassignedSubOpcode k)
    rw [← hsub] at hk ⊢
    exact (congrArg (fun n => decodeWord n (leNat (bytesAt s a s.baseLen)) []) hop).trans (decodeWord_of_subop24 hk [])

end Sys2Proof.Proofs.Fetch

namespace Sys2Proof.Proofs.Reset

open Sys2Proof.Machine

/-- Settles O8: memory lists nothing after reset. -/
theorem resetInv : Obligations.ResetInv := by
  unfold Obligations.ResetInv
  exact reset_mem_wf

/-- Settles O9: the pc lies in text, whose bytes are 0, the byte of TRAP. -/
theorem resetValues : Obligations.ResetValues := by
  unfold Obligations.ResetValues
  refine ⟨rfl, fun _ => reset_reg, fun l => State.readable_of_found _ l rfl, reset_byte, fun _ => reset_kind, rfl, ?step⟩
  exact step_of_lt_four (by decide) (decode_trap []) rfl rfl

end Sys2Proof.Proofs.Reset

namespace Sys2Proof.Proofs.Encoding

/-- Settles O3: each word is read by evaluating the decoder. -/
theorem decodeWords : Obligations.DecodeWords := by
  unfold Obligations.DecodeWords
  exact ⟨rfl, rfl, rfl, rfl, rfl, rfl, rfl, rfl, rfl⟩

end Sys2Proof.Proofs.Encoding

namespace Sys2Proof.Proofs.Refused

/-- Settles O60: the refusal is the whole meaning of each of these rows, and the rows without an encoding are those
`WellFormed` leaves out. -/
theorem rolesRefused : Obligations.RolesRefused := by
  unfold Obligations.RolesRefused
  refine ⟨?floats, fun _ _ => rfl, ?roles, ?container, ⟨rfl, fun _ => rfl⟩, ?noOpcode⟩
  case floats =>
    intro p hp d rs z s
    fin_cases hp <;> rfl
  case roles =>
    intro p hp f s
    fin_cases hp <;> rfl
  case container =>
    intro i hi
    fin_cases hi <;> exact ⟨rfl, fun _ => rfl⟩
  case noOpcode => exact List.forall_iff_forall_mem.mp ⟨⟨rfl, fun _ => rfl⟩, ⟨rfl, fun _ => rfl⟩, rfl, fun _ => rfl⟩

end Sys2Proof.Proofs.Refused
end

section
/-!
The checks an instruction makes before it computes (60_exceptions.md R373): what each check answers, and how the typed
families stop at theirs. The families' own results build on the same lemmas.
-/
namespace Sys2Proof.Machine

/-! ## Computations that may stop -/

@[simp] theorem ok_bind {α β : Type} (a : α) (f : α → Res β) : (Except.ok a >>= f : Res β) = f a := rfl

@[simp] theorem error_bind {α β : Type} (e : Stop) (f : α → Res β) : (Except.error e >>= f : Res β) = .error e := rfl

theorem outcome_fault (f : Fault) : outcome (.error (.fault f)) = .fault f := rfl

theorem outcome_refused (r : Refusal) : outcome (.error (.refused r)) = .refused r := rfl

theorem faultIf_of {p : Prop} [Decidable p] (h : p) (f : Fault) : faultIf p f = .error (.fault f) := if_pos h

theorem faultIf_of_not {p : Prop} [Decidable p] (h : ¬ p) (f : Fault) : faultIf p f = .ok () := if_neg h

theorem refuseIf_of {p : Prop} [Decidable p] (h : p) (r : Refusal) : refuseIf p r = .error (.refused r) := if_pos h

theorem refuseIf_of_not {p : Prop} [Decidable p] (h : ¬ p) (r : Refusal) : refuseIf p r = .ok () := if_neg h

/-! ## Checks -/

section
variable {s : State} {l : List RegNum} {ty : TyCode} {tys : List TyCode}

theorem checkReads_of_readable (h : s.readable l = true) : s.checkReads l = .ok () := (checkReads_ok s l ()).mpr h

theorem typeCheck_of_typed (hty : isFloaty ty = false) (htys : ∀ x ∈ tys, x = ty) : typeCheck ty tys = .ok ty :=
  (typeCheck_ok ty tys ty).mpr ⟨hty, htys, rfl⟩

theorem typeCheck_of_floaty (h : (isFloaty ty || tys.any isFloaty) = true) : typeCheck ty tys = .error (.refused .floatOrPosit) := by
  rw [typeCheck, refuseIf_of h, error_bind]

theorem typeCheck_of_mismatch (h : (isFloaty ty || tys.any isFloaty) = false) (hne : ∃ x ∈ tys, x ≠ ty) :
    typeCheck ty tys = .error (.fault (.trap .typeMismatch)) := by
  have hany : tys.any (· ≠ ty) = true := by simpa using hne
  rw [typeCheck, refuseIf_of_not (by simp [h]), ok_bind, faultIf_of hany, error_bind]

theorem refuseFloaty_of_typed (h : ∀ x ∈ tys, isFloaty x = false) : refuseFloaty tys = .ok () := (refuseFloaty_ok tys ()).mpr h

theorem refuseFloaty_of_floaty (h : tys.any isFloaty = true) : refuseFloaty tys = .error (.refused .floatOrPosit) := refuseIf_of h _

@[simp] theorem checkZZ_zero : checkZZ 0 = .ok () := rfl

theorem checkZZ_of_ne {zz : BitVec 2} (h : zz ≠ 0) : checkZZ zz = .error (.refused .operandModifier) := refuseIf_of h _

@[simp] theorem checkLoadU_false : checkLoadU false = .ok () := rfl

@[simp] theorem checkLoadU_true : checkLoadU true = .error (.refused .loadUBit) := rfl

end

/-! ## How a typed instruction stops (10_state.md R26, R29) -/

/-- How an instruction ends whose first two checks are the reads of the registers `reads` and the check of the operand types
`ty` and `tys`. -/
structure TypedStops (out : Out) (s : State) (reads : List RegNum) (ty : TyCode) (tys : List TyCode) : Prop where
  unwritten : s.readable reads = false → out = .fault (.unwrittenRegister 28)
  floaty : s.readable reads = true → (isFloaty ty || tys.any isFloaty) = true → out = .refused .floatOrPosit
  mismatch : s.readable reads = true → (isFloaty ty || tys.any isFloaty) = false → (∃ x ∈ tys, x ≠ ty) →
    out = .fault (.trap .typeMismatch)

/-- The two checks stop before anything that follows them. -/
theorem typedStops (s : State) (reads : List RegNum) (ty : TyCode) (tys : List TyCode) (k : TyCode → Res State) :
    TypedStops (outcome (s.checkReads reads >>= fun _ => typeCheck ty tys >>= k)) s reads ty tys where
  unwritten h := by rw [checkReads_error s reads h, error_bind, outcome_fault]
  floaty h hf := by rw [checkReads_of_readable h, ok_bind, typeCheck_of_floaty hf, error_bind, outcome_refused]
  mismatch h hf hne := by rw [checkReads_of_readable h, ok_bind, typeCheck_of_mismatch hf hne, error_bind, outcome_fault]

section
variable {out : Out} {s : State} {reads : List RegNum} {a b c : TyCode}

/-! The clauses of the statements, by the number of typed operands. -/

theorem TypedStops.one (h : TypedStops out s reads a []) :
    (s.readable reads = false → out = .fault (.unwrittenRegister 28)) ∧
      (s.readable reads = true → isFloaty a = true → out = .refused .floatOrPosit) :=
  ⟨h.unwritten, fun hr hf => h.floaty hr (by simpa using hf)⟩

theorem TypedStops.two (h : TypedStops out s reads a [b]) :
    (s.readable reads = false → out = .fault (.unwrittenRegister 28)) ∧
      (s.readable reads = true → (isFloaty a || isFloaty b) = true → out = .refused .floatOrPosit) ∧
      (s.readable reads = true → (isFloaty a || isFloaty b) = false → b ≠ a → out = .fault (.trap .typeMismatch)) :=
  ⟨h.unwritten, fun hr hf => h.floaty hr (by simpa using hf),
    fun hr hf hne => h.mismatch hr (by simpa using hf) ⟨b, List.mem_singleton_self b, hne⟩⟩

theorem TypedStops.three (h : TypedStops out s reads a [b, c]) :
    (s.readable reads = false → out = .fault (.unwrittenRegister 28)) ∧
      (s.readable reads = true → (isFloaty a || isFloaty b || isFloaty c) = true → out = .refused .floatOrPosit) ∧
      (s.readable reads = true → (isFloaty a || isFloaty b || isFloaty c) = false → ¬ (b = a ∧ c = a) →
        out = .fault (.trap .typeMismatch)) :=
  ⟨h.unwritten, fun hr hf => h.floaty hr (by simpa [or_assoc] using hf),
    fun hr hf hne => h.mismatch hr (by simpa [and_assoc] using hf) (by simpa [imp_iff_not_or] using hne)⟩

end

/-! ## The typed families -/

section
variable (s : State) (d r rs rt : RegNum) (n : Imm5) (zz : BitVec 2) (u upd : Bool)

theorem arith2_stops (f : Int → Int → Int) : TypedStops (arith2 f upd d r rs s) s [r, rs] (s.rd (s.npc 3) r).ty [(s.rd (s.npc 3) rs).ty] :=
  typedStops ..

theorem divide2_stops : TypedStops (divide2 upd d r rs s) s [r, rs] (s.rd (s.npc 3) r).ty [(s.rd (s.npc 3) rs).ty] :=
  typedStops ..

theorem execCmp_stops : TypedStops (execCmp d r rs s) s [r, rs] (s.rd (s.npc 3) r).ty [(s.rd (s.npc 3) rs).ty] :=
  typedStops ..

theorem select2_stops (f : TyCode → Word → Word → Word) :
    TypedStops (select2 f d r rs s) s [r, rs] (s.rd (s.npc 3) r).ty [(s.rd (s.npc 3) rs).ty] :=
  typedStops ..

theorem arith2I_stops (f : Int → Int → Int) : TypedStops (arith2I f upd d r n s) s [r] (s.rd (s.npc (3 + n.extLen)) r).ty [] :=
  typedStops ..

theorem divide2I_stops : TypedStops (divide2I upd d r n s) s [r] (s.rd (s.npc (3 + n.extLen)) r).ty [] :=
  typedStops ..

theorem execCmpi_stops : TypedStops (execCmpi d r n s) s [r] (s.rd (s.npc (3 + n.extLen)) r).ty [] :=
  typedStops ..

theorem select2I_stops (f : TyCode → Word → Word → Word) :
    TypedStops (select2I f d r n s) s [r] (s.rd (s.npc (3 + n.extLen)) r).ty [] :=
  typedStops ..

theorem arith3_stops (f : Int → Int → Int → Int) :
    TypedStops (arith3 f d r rs rt zz u s) s [r, rs, rt] (s.rd (s.npc 4) r).ty [(s.rd (s.npc 4) rs).ty, (s.rd (s.npc 4) rt).ty] :=
  typedStops ..

theorem execDdiv_stops :
    TypedStops (execDdiv d r rs rt 0 u s) s [r, rs, rt] (s.rd (s.npc 4) r).ty [(s.rd (s.npc 4) rs).ty, (s.rd (s.npc 4) rt).ty] :=
  typedStops ..

theorem select3_stops (f : TyCode → Word → Word → Word → Word) :
    TypedStops (select3 f d r rs rt 0 u s) s [r, rs, rt] (s.rd (s.npc 4) r).ty [(s.rd (s.npc 4) rs).ty, (s.rd (s.npc 4) rt).ty] :=
  typedStops ..

theorem arith3I_stops (f : Int → Int → Int → Int) :
    TypedStops (arith3I f d r n rt zz u s) s [r, rt] (s.rd (s.npc (4 + n.extLen)) r).ty [(s.rd (s.npc (4 + n.extLen)) rt).ty] :=
  typedStops ..

theorem execDdivi_stops :
    TypedStops (execDdivi d r n rt 0 u s) s [r, rt] (s.rd (s.npc (4 + n.extLen)) r).ty [(s.rd (s.npc (4 + n.extLen)) rt).ty] :=
  typedStops ..

theorem select3I_stops (f : TyCode → Word → Word → Word → Word) :
    TypedStops (select3I f d r n rt 0 u s) s [r, rt] (s.rd (s.npc (4 + n.extLen)) r).ty [(s.rd (s.npc (4 + n.extLen)) rt).ty] :=
  typedStops ..

end

end Sys2Proof.Machine

namespace Sys2Proof.Proofs.Checks

open Sys2Proof.Machine

/-- Settles O18: each instruction is one of the families' shared operations, whose first two checks are the reads and the
type check. -/
theorem typeChecks : Obligations.TypeChecks := by
  unfold Obligations.TypeChecks
  refine ⟨List.forall_iff_forall_mem.mp ⟨?add, ?addnu, ?sub, ?subnu, ?mul, ?mulnu, ?div, ?divnu, ?cmp, ?max, ?min⟩,
    List.forall_iff_forall_mem.mp ⟨?addi, ?addnui, ?subi, ?subnui, ?muli, ?mulnui, ?divi, ?divnui, ?cmpi, ?maxi, ?mini⟩,
    List.forall_iff_forall_mem.mp ⟨?add3, ?sub3, ?mac⟩, List.forall_iff_forall_mem.mp ⟨?ddiv, ?max3, ?min3, ?median3⟩,
    List.forall_iff_forall_mem.mp ⟨?add3i, ?sub3i, ?maci⟩, List.forall_iff_forall_mem.mp ⟨?ddivi, ?max3i, ?min3i, ?median3I⟩⟩
  all_goals dsimp only [exec]
  case add | addnu | sub | subnu | mul | mulnu => exact fun _ _ _ _ => (arith2_stops ..).two
  case div | divnu => exact fun _ _ _ _ => (divide2_stops ..).two
  case cmp => exact fun _ _ _ _ => (execCmp_stops ..).two
  case max | min => exact fun _ _ _ _ => (select2_stops ..).two
  case addi | addnui | subi | subnui | muli | mulnui => exact fun _ _ _ _ => (arith2I_stops ..).one
  case divi | divnui => exact fun _ _ _ _ => (divide2I_stops ..).one
  case cmpi => exact fun _ _ _ _ => (execCmpi_stops ..).one
  case maxi | mini => exact fun _ _ _ _ => (select2I_stops ..).one
  case add3 | sub3 | mac => exact fun _ _ _ _ _ _ _ => (arith3_stops ..).three
  case ddiv => exact fun _ _ _ _ _ _ => (execDdiv_stops ..).three
  case max3 | min3 | median3 => exact fun _ _ _ _ _ _ => (select3_stops ..).three
  case add3i | sub3i | maci => exact fun _ _ _ _ _ _ _ => (arith3I_stops ..).two
  case ddivi => exact fun _ _ _ _ _ _ => (execDdivi_stops ..).two
  case max3i | min3i | median3I => exact fun _ _ _ _ _ _ => (select3I_stops ..).two

end Sys2Proof.Proofs.Checks
end

section
/-!
The ADD/SUB family and the products (40_addsub.md, 42_muldiv.md section 2): the exact result of each shared operation on
typed operands, and what destination and residue together say of it.
-/
namespace Sys2Proof.Machine

section
variable {s : State} {ty : TyCode} {d r rs rt : RegNum} {n : Imm5} {zz : BitVec 2} {u upd : Bool}

/-- R159: a sign change is a product by -1 or 1. -/
theorem flipIf_eq_mul (z : Bool) (x : Int) : flipIf z x = (if z then -1 else 1) * x := by
  cases z <;> simp [flipIf]

/-! ## The shared operations on typed operands -/

theorem arith2_writes {f : Int → Int → Int} (hty : isFloaty ty = false) (hread : s.readable [r, rs] = true)
    (hr : (s.rd (s.npc 3) r).ty = ty) (hs : (s.rd (s.npc 3) rs).ty = ty) :
    let e := f (valOf ty (s.rd (s.npc 3) r).val) (valOf ty (s.rd (s.npc 3) rs).val)
    ∃ t, arith2 f upd d r rs s = .next t ∧ Writes s t (s.npc 3) d (resultOf e) ty (residueIf upd (residueOf e)) := by
  refine ⟨_, ?_, s.writeBack_writes _ _ _ _ _⟩
  rw [arith2, checkReads_of_readable hread, hr, ok_bind, typeCheck_of_typed hty (by simp [hs]), ok_bind]
  rfl

/-- What an operation on two registers that answers a next state did. -/
theorem arith2_next {f : Int → Int → Int} {t : State} (h : arith2 f upd d r rs s = .next t) :
    let ty := (s.rd (s.npc 3) r).ty
    let e := f (valOf ty (s.rd (s.npc 3) r).val) (valOf ty (s.rd (s.npc 3) rs).val)
    Writes s t (s.npc 3) d (resultOf e) ty (residueIf upd (residueOf e)) := by
  simp only [arith2, outcome_next, bind_ok, typeCheck_ok, pure_ok] at h
  obtain ⟨_, _, _, ⟨_, _, rfl⟩, rfl⟩ := h
  exact s.writeBack_writes _ _ _ _ _

theorem arith2I_writes {f : Int → Int → Int} (hty : isFloaty ty = false) (hread : s.readable [r] = true)
    (hr : (s.rd (s.npc (3 + n.extLen)) r).ty = ty) :
    let e := f (valOf ty (s.rd (s.npc (3 + n.extLen)) r).val) (valOf ty (immVal n (ctxOf ty)))
    ∃ t, arith2I f upd d r n s = .next t ∧
      Writes s t (s.npc (3 + n.extLen)) d (resultOf e) ty (residueIf upd (residueOf e)) := by
  refine ⟨_, ?_, s.writeBack_writes _ _ _ _ _⟩
  rw [arith2I, checkReads_of_readable hread, hr, ok_bind, typeCheck_of_typed hty (by simp), ok_bind]
  rfl

theorem arith3_writes {f : Int → Int → Int → Int} (hty : isFloaty ty = false) (hread : s.readable [r, rs, rt] = true)
    (hr : (s.rd (s.npc 4) r).ty = ty) (hs : (s.rd (s.npc 4) rs).ty = ty) (ht : (s.rd (s.npc 4) rt).ty = ty) :
    let e := f ((if zz.getLsbD 1 then -1 else 1) * valOf ty (s.rd (s.npc 4) r).val) (valOf ty (s.rd (s.npc 4) rs).val)
      ((if zz.getLsbD 0 then -1 else 1) * valOf ty (s.rd (s.npc 4) rt).val)
    ∃ t, arith3 f d r rs rt zz u s = .next t ∧
      Writes s t (s.npc 4) d (resultOf e) ty (residueIf u (residueOf e)) := by
  refine ⟨_, ?_, s.writeBack_writes _ _ _ _ _⟩
  rw [arith3, checkReads_of_readable hread, hr, ok_bind, typeCheck_of_typed hty (by simp [hs, ht]), ok_bind, flipIf_eq_mul,
    flipIf_eq_mul]
  rfl

theorem arith3I_writes {f : Int → Int → Int → Int} (hty : isFloaty ty = false) (hread : s.readable [r, rt] = true)
    (hr : (s.rd (s.npc (4 + n.extLen)) r).ty = ty) (ht : (s.rd (s.npc (4 + n.extLen)) rt).ty = ty) :
    let e := f ((if zz.getLsbD 1 then -1 else 1) * valOf ty (s.rd (s.npc (4 + n.extLen)) r).val)
      (valOf ty (immVal n (ctxOf ty))) ((if zz.getLsbD 0 then -1 else 1) * valOf ty (s.rd (s.npc (4 + n.extLen)) rt).val)
    ∃ t, arith3I f d r n rt zz u s = .next t ∧
      Writes s t (s.npc (4 + n.extLen)) d (resultOf e) ty (residueIf u (residueOf e)) := by
  refine ⟨_, ?_, s.writeBack_writes _ _ _ _ _⟩
  rw [arith3I, checkReads_of_readable hread, hr, ok_bind, typeCheck_of_typed hty (by simp [ht]), ok_bind, flipIf_eq_mul,
    flipIf_eq_mul]
  rfl

theorem execCmp_writes (hty : isFloaty ty = false) (hread : s.readable [r, rs] = true) (hr : (s.rd (s.npc 3) r).ty = ty)
    (hs : (s.rd (s.npc 3) rs).ty = ty) :
    ∃ t, execCmp d r rs s = .next t ∧
      Writes s t (s.npc 3) d (Config.cmpResult ty (s.rd (s.npc 3) rs).val (s.rd (s.npc 3) r).val) .u .keep := by
  refine ⟨_, ?_, s.writeBack_writes _ _ _ _ _⟩
  rw [execCmp, checkReads_of_readable hread, hr, ok_bind, typeCheck_of_typed hty (by simp [hs]), ok_bind]
  rfl

theorem execCmpi_writes (hty : isFloaty ty = false) (hread : s.readable [r] = true)
    (hr : (s.rd (s.npc (3 + n.extLen)) r).ty = ty) :
    ∃ t, execCmpi d r n s = .next t ∧ Writes s t (s.npc (3 + n.extLen)) d
      (Config.cmpResult ty (immVal n (ctxOf ty)) (s.rd (s.npc (3 + n.extLen)) r).val) .u .keep := by
  refine ⟨_, ?_, s.writeBack_writes _ _ _ _ _⟩
  rw [execCmpi, checkReads_of_readable hread, hr, ok_bind, typeCheck_of_typed hty (by simp), ok_bind]
  rfl

/-- Where the destination is neither the residue register nor the pc, both halves of an exact result can be read back. -/
theorem Writes.halves {t : State} {npc v w : Word} (h : Writes s t npc d v ty (.put w)) (h28 : d ≠ 28) (h31 : d ≠ 31) :
    t.reg d = { val := v, ty := ty } ∧ t.reg 28 = { val := w, ty := ty } :=
  ⟨h.dest h31 fun e => absurd e h28, h.residue w rfl h28⟩

theorem arith2_halves {f : Int → Int → Int} (h28 : d ≠ 28) (h31 : d ≠ 31) (hty : isFloaty ty = false)
    (hread : s.readable [r, rs] = true) (hr : (s.rd (s.npc 3) r).ty = ty) (hs : (s.rd (s.npc 3) rs).ty = ty) :
    let e := f (valOf ty (s.rd (s.npc 3) r).val) (valOf ty (s.rd (s.npc 3) rs).val)
    ∃ t, arith2 f true d r rs s = .next t ∧ t.reg d = { val := resultOf e, ty := ty } ∧
      t.reg 28 = { val := residueOf e, ty := ty } := by
  obtain ⟨t, ht, hwrites⟩ := arith2_writes (f := f) (upd := true) hty hread hr hs
  exact ⟨t, ht, hwrites.halves h28 h31⟩

end

/-! ## What the two halves say of the exact result (40_addsub.md R150) -/

/-- An exact result of 64 bits without sign is its two halves. -/
theorem result_add_residue_unsigned {e : Int} (h0 : 0 ≤ e) (h1 : e < 2 ^ 64) :
    ((resultOf e).toNat : Int) + 2 ^ 32 * ((residueOf e).toNat : Int) = e := by
  rw [resultOf, residueOf, BitVec.toNat_ofInt, BitVec.toNat_ofInt]
  omega

/-- An exact result of 64 bits with sign is its lower half, without sign, and its upper half, with sign. -/
theorem result_add_residue_signed {e : Int} (h0 : -2 ^ 63 ≤ e) (h1 : e < 2 ^ 63) :
    ((resultOf e).toNat : Int) + 2 ^ 32 * (residueOf e).toInt = e := by
  rw [resultOf, residueOf, BitVec.toNat_ofInt, BitVec.toInt_ofInt, Int.bmod_eq_of_le (by omega) (by omega)]
  omega

theorem resultOf_sub (a b : Word) : resultOf ((b.toNat : Int) - a.toNat) = b - a := by
  apply BitVec.eq_of_toNat_eq
  rw [resultOf, BitVec.toNat_ofInt, BitVec.toNat_sub]
  omega

/-- The residue of a difference is its borrow, spread over the word. -/
theorem residueOf_sub (a b : Word) : residueOf ((b.toNat : Int) - a.toNat) = if a.toNat ≤ b.toNat then 0 else 0xFFFFFFFF := by
  have ha : a.toNat < 2 ^ 32 := a.isLt
  have hb : b.toNat < 2 ^ 32 := b.isLt
  split
  case isTrue h =>
    have hdiv : ((b.toNat : Int) - a.toNat) / 2 ^ 32 = 0 := by omega
    rw [residueOf, hdiv]
    rfl
  case isFalse h =>
    have hdiv : ((b.toNat : Int) - a.toNat) / 2 ^ 32 = -1 := by omega
    rw [residueOf, hdiv]
    rfl

theorem mul_toNat_lt (a b : Word) : a.toNat * b.toNat < 2 ^ 64 :=
  show a.toNat * b.toNat < 2 ^ 32 * 2 ^ 32 from Nat.mul_lt_mul'' a.isLt b.isLt

theorem mul_toInt_range (a b : Word) : -2 ^ 63 ≤ a.toInt * b.toInt ∧ a.toInt * b.toInt < 2 ^ 63 := by
  have ha : |a.toInt| ≤ 2 ^ 31 := abs_le.mpr ⟨BitVec.le_toInt a, BitVec.toInt_lt.le⟩
  have hb : |b.toInt| ≤ 2 ^ 31 := abs_le.mpr ⟨BitVec.le_toInt b, BitVec.toInt_lt.le⟩
  have hab : |a.toInt * b.toInt| ≤ 2 ^ 31 * 2 ^ 31 := by
    rw [abs_mul]
    exact mul_le_mul ha hb (abs_nonneg _) (by decide)
  obtain ⟨hlo, hhi⟩ := abs_le.mp hab
  omega

end Sys2Proof.Machine

namespace Sys2Proof.Proofs.Arithmetic

open Sys2Proof.Machine

/-- Settles O13: the six instructions are the one operation on two registers, with their exact result and residue flag. -/
theorem arithRegister : Obligations.ArithRegister := by
  unfold Obligations.ArithRegister
  refine List.forall_iff_forall_mem.mp ⟨?add, ?addnu, ?sub, ?subnu, ?mul, ?mulnu⟩
  all_goals dsimp only [exec]
  all_goals exact fun _ _ _ _ _ hty hread hr hs => arith2_writes hty hread hr hs

/-- Settles O14: as O13, with the immediate read in the type of R. -/
theorem arithImmediate : Obligations.ArithImmediate := by
  unfold Obligations.ArithImmediate
  refine List.forall_iff_forall_mem.mp ⟨?addi, ?addnui, ?subi, ?subnui, ?muli, ?mulnui⟩
  all_goals dsimp only [exec]
  all_goals exact fun _ _ _ _ _ hty hread hr => arith2I_writes hty hread hr

/-- Settles O15: both forms of the operation on three operands. -/
theorem arithThree : Obligations.ArithThree := by
  unfold Obligations.ArithThree
  refine ⟨List.forall_iff_forall_mem.mp ⟨?add3, ?sub3, ?mac⟩, List.forall_iff_forall_mem.mp ⟨?add3i, ?sub3i, ?maci⟩⟩
  all_goals dsimp only [exec]
  case add3 | sub3 | mac => exact fun _ _ _ _ _ _ _ _ hty hread hr hs ht => arith3_writes hty hread hr hs ht
  case add3i | sub3i | maci => exact fun _ _ _ _ _ _ _ _ hty hread hr ht => arith3I_writes hty hread hr ht

/-- Settles O16: CMP and CMPI write the parameter as it is. -/
theorem compare : Obligations.Compare := by
  unfold Obligations.Compare
  exact ⟨fun _ _ _ _ _ hty hread hr hs => execCmp_writes hty hread hr hs,
    fun _ _ _ _ _ hty hread hr => execCmpi_writes hty hread hr⟩

/-- Settles O17: the exact results of 32-bit operands fit 64 bits, so the two halves lose nothing. -/
theorem exactArithmetic : Obligations.ExactArithmetic := by
  unfold Obligations.ExactArithmetic
  intro d r rs s h28 h31 hread a b
  have ha : a.val.toNat < 2 ^ 32 := a.val.isLt
  have hb : b.val.toNat < 2 ^ 32 := b.val.isLt
  refine ⟨fun hr hs => ?add, fun hr hs => ?sub, fun hr hs => ?mulUnsigned, fun hr hs => ?mulSigned⟩
  all_goals dsimp only [exec]
  case add =>
    obtain ⟨t, ht, hdest, hresidue⟩ := arith2_halves (f := fun a b => a + b) h28 h31 rfl hread hr hs
    have hexact := result_add_residue_unsigned (e := (a.val.toNat : Int) + b.val.toNat) (by omega) (by omega)
    refine ⟨t, ht, ?_⟩
    rw [hdest, hresidue]
    change (resultOf ((a.val.toNat : Int) + b.val.toNat)).toNat + _ * (residueOf ((a.val.toNat : Int) + b.val.toNat)).toNat = _ ∧
      (residueOf ((a.val.toNat : Int) + b.val.toNat)).toNat ≤ 1
    omega
  case sub =>
    obtain ⟨t, ht, hdest, hresidue⟩ := arith2_halves (f := fun a b => b - a) h28 h31 rfl hread hr hs
    refine ⟨t, ht, ?_⟩
    rw [hdest, hresidue]
    exact ⟨resultOf_sub a.val b.val, residueOf_sub a.val b.val⟩
  case mulUnsigned =>
    obtain ⟨t, ht, hdest, hresidue⟩ := arith2_halves (f := fun a b => a * b) h28 h31 rfl hread hr hs
    refine ⟨t, ht, ?_⟩
    rw [hdest, hresidue]
    exact_mod_cast result_add_residue_unsigned (e := (a.val.toNat : Int) * b.val.toNat) (by positivity)
      (by exact_mod_cast mul_toNat_lt a.val b.val)
  case mulSigned =>
    obtain ⟨t, ht, hdest, hresidue⟩ := arith2_halves (f := fun a b => a * b) h28 h31 rfl hread hr hs
    obtain ⟨hlo, hhi⟩ := mul_toInt_range a.val b.val
    refine ⟨t, ht, ?_⟩
    rw [hdest, hresidue]
    exact result_add_residue_signed hlo hhi

end Sys2Proof.Proofs.Arithmetic
end

section
/-!
The Boolean family (41_boolean.md): the bitwise result of each shared operation, the fault of an operand read, and what is
left of the residue register.
-/
namespace Sys2Proof.Machine

section
variable {s : State} {d r rs rt : RegNum} {n : Imm5} {zz : BitVec 2} {u : Bool}

theorem outcome_of_unreadable {l : List RegNum} (h : s.readable l = false) (k : Unit → Res State) :
    outcome (s.checkReads l >>= k) = .fault (.unwrittenRegister 28) := by
  rw [checkReads_error s l h, error_bind, outcome_fault]

theorem outcome_of_readable {l : List RegNum} (h : s.readable l = true) (k : Unit → Res State) :
    outcome (s.checkReads l >>= k) = outcome (k ()) := by
  rw [checkReads_of_readable h, ok_bind]

/-! ## The shared operations -/

theorem bool2_writes (f : Word → Word → Word) (hread : s.readable [r, rs] = true) :
    ∃ t, bool2 f d r rs s = .next t ∧
      Writes s t (s.npc 3) d (f (s.rd (s.npc 3) r).val (s.rd (s.npc 3) rs).val) .u .keep :=
  ⟨_, outcome_of_readable hread _, s.writeBack_writes _ _ _ _ _⟩

theorem bool2_fault (f : Word → Word → Word) (hread : s.readable [r, rs] = false) :
    bool2 f d r rs s = .fault (.unwrittenRegister 28) :=
  outcome_of_unreadable hread _

theorem bool2I_writes (f : Word → Word → Word) (hread : s.readable [r] = true) :
    ∃ t, bool2I f d r n s = .next t ∧
      Writes s t (s.npc (3 + n.extLen)) d (f (s.rd (s.npc (3 + n.extLen)) r).val (immVal n .unsigned)) .u .keep :=
  ⟨_, outcome_of_readable hread _, s.writeBack_writes _ _ _ _ _⟩

theorem bool2I_fault (f : Word → Word → Word) (hread : s.readable [r] = false) :
    bool2I f d r n s = .fault (.unwrittenRegister 28) :=
  outcome_of_unreadable hread _

theorem bool3_writes (f : Word → Word → Word → Word) (hread : s.readable [r, rs, rt] = true) :
    ∃ t, bool3 f d r rs rt zz u s = .next t ∧ Writes s t (s.npc 4) d
      (f (complIf (zR zz) (s.rd (s.npc 4) r).val) (s.rd (s.npc 4) rs).val (complIf (zT zz) (s.rd (s.npc 4) rt).val)) .u
      (unstatedIf u) :=
  ⟨_, outcome_of_readable hread _, s.writeBack_writes _ _ _ _ _⟩

theorem bool3_fault (f : Word → Word → Word → Word) (hread : s.readable [r, rs, rt] = false) :
    bool3 f d r rs rt zz u s = .fault (.unwrittenRegister 28) :=
  outcome_of_unreadable hread _

theorem bool3I_writes (f : Word → Word → Word → Word) (hread : s.readable [r, rt] = true) :
    ∃ t, bool3I f d r n rt zz u s = .next t ∧ Writes s t (s.npc (4 + n.extLen)) d
      (f (complIf (zR zz) (s.rd (s.npc (4 + n.extLen)) r).val) (immVal n .unsigned)
        (complIf (zT zz) (s.rd (s.npc (4 + n.extLen)) rt).val)) .u (unstatedIf u) :=
  ⟨_, outcome_of_readable hread _, s.writeBack_writes _ _ _ _ _⟩

theorem bool3I_fault (f : Word → Word → Word → Word) (hread : s.readable [r, rt] = false) :
    bool3I f d r n rt zz u s = .fault (.unwrittenRegister 28) :=
  outcome_of_unreadable hread _

/-! ## Reading R28 after a residue update without a stated value (10_state.md R23, R29) -/

theorem readable_iff {l : List RegNum} : s.readable l = true ↔ (s.residueLost = true → 28 ∉ l) := by
  cases hlost : s.residueLost <;> simp [State.readable, hlost]

theorem readable_of_lost {l : List RegNum} (hlost : s.residueLost = true) (hmem : 28 ∈ l) : s.readable l = false := by
  simp [State.readable, hlost, hmem]

/-- After such an update an OR that reads R28 in either position faults. -/
theorem Writes.or_faults {t : State} {npc v : Word} {ty : TyCode} (h : Writes s t npc d v ty (unstatedIf u)) (hu : u = true)
    (e k : RegNum) : exec (.or e 28 k) t = .fault (.unwrittenRegister 28) ∧ exec (.or e k 28) t = .fault (.unwrittenRegister 28) := by
  have hlost : t.residueLost = true := by rw [h.lost, hu]; rfl
  dsimp only [exec]
  exact ⟨bool2_fault _ (readable_of_lost hlost List.mem_cons_self),
    bool2_fault _ (readable_of_lost hlost (List.mem_cons_of_mem _ List.mem_cons_self))⟩

end

end Sys2Proof.Machine

namespace Sys2Proof.Proofs.Boolean

open Sys2Proof.Machine

/-- Settles O19: the only check of a Boolean instruction is that of its operand reads. -/
theorem booleanTwo : Obligations.BooleanTwo := by
  unfold Obligations.BooleanTwo
  refine ⟨List.forall_iff_forall_mem.mp ⟨?and, ?or, ?xor⟩, List.forall_iff_forall_mem.mp ⟨?andi, ?ori, ?xori⟩⟩
  all_goals dsimp only [exec]
  case and | or | xor => exact fun _ _ _ _ => ⟨bool2_writes _, bool2_fault _⟩
  case andi | ori | xori => exact fun _ _ _ _ => ⟨bool2I_writes _, bool2I_fault _⟩

/-- Settles O20: as O19; the residue update without a stated value shows in the state the instruction leaves. -/
theorem booleanThree : Obligations.BooleanThree := by
  unfold Obligations.BooleanThree
  refine ⟨List.forall_iff_forall_mem.mp ⟨?and3, ?or3, ?xor3⟩, List.forall_iff_forall_mem.mp ⟨?and3i, ?or3i, ?xor3i⟩⟩
  all_goals dsimp only [exec]
  case and3 | or3 | xor3 =>
    refine fun d r rs rt zz u s => ⟨bool3_fault _, fun hread => ?_⟩
    obtain ⟨t, ht, hwrites⟩ := bool3_writes _ hread
    exact ⟨t, ht, hwrites.or_faults, hwrites⟩
  case and3i | or3i | xor3i =>
    refine fun d r n rt zz u s => ⟨bool3I_fault _, fun hread => ?_⟩
    obtain ⟨t, ht, hwrites⟩ := bool3I_writes _ hread
    exact ⟨t, ht, hwrites.or_faults, hwrites⟩

end Sys2Proof.Proofs.Boolean
end

section
/-!
The divisions (42_muldiv.md section 3): quotient and remainder of typed operands, where a division stops, and the identities
of 95_test_vectors.md section 13.
-/
namespace Sys2Proof.Machine

/-! ## The integers a word stands for -/

/-- The integers a word of type `ty` can stand for. -/
def InRange (ty : TyCode) (x : Int) : Prop := if ty = .s then -2 ^ 31 ≤ x ∧ x < 2 ^ 31 else 0 ≤ x ∧ x < 2 ^ 32

theorem inRange_signed (x : Int) : InRange .s x ↔ -2 ^ 31 ≤ x ∧ x < 2 ^ 31 := by simp [InRange]

theorem inRange_of_ne_signed {ty : TyCode} (h : ty ≠ .s) (x : Int) : InRange ty x ↔ 0 ≤ x ∧ x < 2 ^ 32 := by simp [InRange, h]

@[simp] theorem valOf_signed (v : Word) : valOf .s v = v.toInt := rfl

theorem valOf_of_ne_signed {ty : TyCode} (h : ty ≠ .s) (v : Word) : valOf ty v = v.toNat := if_neg h

@[simp] theorem valOf_zero (ty : TyCode) : valOf ty 0 = 0 := by cases ty <;> rfl

theorem valOf_inRange (ty : TyCode) (v : Word) : InRange ty (valOf ty v) := by
  by_cases h : ty = .s
  · subst h
    exact (inRange_signed _).mpr ⟨BitVec.le_toInt v, BitVec.toInt_lt⟩
  · have hv : v.toNat < 2 ^ 32 := v.isLt
    rw [inRange_of_ne_signed h, valOf_of_ne_signed h]
    omega

theorem valOf_ofInt {ty : TyCode} {x : Int} (h : InRange ty x) : valOf ty (BitVec.ofInt 32 x) = x := by
  by_cases hty : ty = .s
  · subst hty
    obtain ⟨hlo, hhi⟩ := (inRange_signed x).mp h
    rw [valOf_signed, BitVec.toInt_ofInt, Int.bmod_eq_of_le (by omega) (by omega)]
  · obtain ⟨hlo, hhi⟩ := (inRange_of_ne_signed hty x).mp h
    rw [valOf_of_ne_signed hty, BitVec.toNat_ofInt]
    omega

theorem ofInt_valOf (ty : TyCode) (v : Word) : BitVec.ofInt 32 (valOf ty v) = v := by
  by_cases h : ty = .s
  · rw [h, valOf_signed, BitVec.ofInt_toInt]
  · rw [valOf_of_ne_signed h, BitVec.ofInt_natCast, BitVec.ofNat_toNat, BitVec.setWidth_eq]

theorem valOf_eq_zero_iff (ty : TyCode) (v : Word) : valOf ty v = 0 ↔ v = 0 := by
  refine ⟨fun h => ?_, fun h => by rw [h, valOf_zero]⟩
  rw [← ofInt_valOf ty v, h]
  rfl

/-! ## Quotients and remainders (42_muldiv.md R185) -/

theorem quotientFits_iff (ty : TyCode) (q : Int) :
    quotientFits ty q = true ↔ if ty = .s then -2 ^ 31 ≤ q ∧ q < 2 ^ 31 else q < 2 ^ 32 := by
  unfold quotientFits
  split <;> rw [decide_eq_true_eq] <;> omega

/-- A quotient of words overflows its type in one case only. -/
theorem quotientFits_of_inRange {ty : TyCode} {a b : Int} (ha : InRange ty a) (hb : InRange ty b)
    (hover : ¬ (ty = .s ∧ a = -2 ^ 31 ∧ b = -1)) : quotientFits ty (a.tdiv b) = true := by
  rw [quotientFits_iff]
  have habs : (a.tdiv b).natAbs = a.natAbs / b.natAbs := Int.natAbs_tdiv a b
  have hle : a.natAbs / b.natAbs ≤ a.natAbs := Nat.div_le_self _ _
  by_cases hty : ty = .s
  · rw [if_pos hty]
    rw [hty, inRange_signed] at ha hb
    by_cases h2 : 2 ≤ b.natAbs
    · have hhalf : a.natAbs / b.natAbs ≤ a.natAbs / 2 := Nat.div_le_div_left h2 (by decide)
      omega
    · have hb : b = 0 ∨ b = 1 ∨ b = -1 := by omega
      obtain rfl | rfl | rfl := hb
      · simp
      · rw [Int.tdiv_one]
        exact ha
      · rw [Int.tdiv_neg, Int.tdiv_one]
        have : a ≠ -2 ^ 31 := fun h => hover ⟨hty, h, rfl⟩
        omega
  · rw [if_neg hty]
    rw [inRange_of_ne_signed hty] at ha
    omega

/-- A quotient of words that fits its type is the integer its word stands for. -/
theorem tdiv_inRange {ty : TyCode} {a b : Int} (ha : InRange ty a) (hb : InRange ty b) (hfits : quotientFits ty (a.tdiv b) = true) :
    InRange ty (a.tdiv b) := by
  rw [quotientFits_iff] at hfits
  by_cases hty : ty = .s
  · rw [if_pos hty] at hfits
    rw [hty, inRange_signed]
    exact hfits
  · rw [if_neg hty] at hfits
    rw [inRange_of_ne_signed hty] at ha hb ⊢
    exact ⟨Int.tdiv_nonneg ha.1 hb.1, hfits⟩

/-- A remainder lies between 0 and the dividend. -/
theorem tmod_inRange {ty : TyCode} {a : Int} (ha : InRange ty a) (b : Int) : InRange ty (a.tmod b) := by
  have habs : (a.tmod b).natAbs = a.natAbs % b.natAbs := Int.natAbs_tmod a b
  have hle : a.natAbs % b.natAbs ≤ a.natAbs := Nat.mod_le _ _
  have hpos : 0 ≤ a → 0 ≤ a.tmod b := fun h => Int.tmod_nonneg b h
  by_cases hty : ty = .s
  · rw [hty, inRange_signed] at ha ⊢
    obtain h | h := le_or_gt 0 a
    · have := hpos h
      omega
    · have hneg : 0 ≤ (-a).tmod b := Int.tmod_nonneg b (by omega)
      rw [Int.neg_tmod] at hneg
      omega
  · rw [inRange_of_ne_signed hty] at ha ⊢
    have := hpos ha.1
    omega

theorem abs_tmod_lt (a : Int) {b : Int} (hb : b ≠ 0) : |a.tmod b| < |b| := by
  have habs : (a.tmod b).natAbs = a.natAbs % b.natAbs := Int.natAbs_tmod a b
  have hlt : a.natAbs % b.natAbs < b.natAbs := Nat.mod_lt _ (Int.natAbs_pos.mpr hb)
  rw [Int.abs_eq_natAbs, Int.abs_eq_natAbs]
  omega

theorem divide_of_fits {ty : TyCode} {a b : Int} (hb : b ≠ 0) (hfits : quotientFits ty (a.tdiv b) = true) :
    divide ty a b = .ok (BitVec.ofInt 32 (a.tdiv b), BitVec.ofInt 32 (a.tmod b)) :=
  (divide_ok ty a b _).mpr ⟨hb, hfits, rfl⟩

theorem divide_zero (ty : TyCode) (a : Int) : divide ty a 0 = .error (.fault .divideByZero) := rfl

theorem divide_overflow {ty : TyCode} {a b : Int} (hb : b ≠ 0) (hfits : quotientFits ty (a.tdiv b) = false) :
    divide ty a b = .error (.fault .divideOverflow) := by
  rw [divide, faultIf_of_not hb, ok_bind, faultIf_of hfits, error_bind]

/-! ## The end of a division -/

/-- The end of every division: the quotient to D, the remainder to R28 where the residue is updated. -/
def State.writeQuotient (s : State) (npc : Word) (d : RegNum) (ty : TyCode) (upd : Bool) (p : Word × Word) : Res State :=
  .ok (s.writeBack npc d p.1 ty (residueIf upd p.2))

section
variable {s : State} {npc : Word} {d r rs rt : RegNum} {n : Imm5} {u upd : Bool} {ty : TyCode} {a b : Int}

theorem quotient_writes (hb : b ≠ 0) (hfits : quotientFits ty (a.tdiv b) = true) :
    ∃ t, outcome (divide ty a b >>= s.writeQuotient npc d ty upd) = .next t ∧
      Writes s t npc d (BitVec.ofInt 32 (a.tdiv b)) ty (residueIf upd (BitVec.ofInt 32 (a.tmod b))) := by
  refine ⟨_, ?_, s.writeBack_writes _ _ _ _ _⟩
  rw [divide_of_fits hb hfits, ok_bind]
  rfl

theorem quotient_byZero (k : Word × Word → Res State) (hb : b = 0) : outcome (divide ty a b >>= k) = .fault .divideByZero := by
  rw [hb, divide_zero, error_bind, outcome_fault]

theorem quotient_overflow (k : Word × Word → Res State) (hb : b ≠ 0) (hfits : quotientFits ty (a.tdiv b) = false) :
    outcome (divide ty a b >>= k) = .fault .divideOverflow := by
  rw [divide_overflow hb hfits, error_bind, outcome_fault]

/-! ## The divisions of typed operands -/

theorem divide2_of_typed (hty : isFloaty ty = false) (hread : s.readable [r, rs] = true) (hr : (s.rd (s.npc 3) r).ty = ty)
    (hs : (s.rd (s.npc 3) rs).ty = ty) :
    divide2 upd d r rs s = outcome (divide ty (valOf ty (s.rd (s.npc 3) r).val) (valOf ty (s.rd (s.npc 3) rs).val) >>=
      s.writeQuotient (s.npc 3) d ty upd) := by
  rw [divide2, checkReads_of_readable hread, hr, ok_bind, typeCheck_of_typed hty (by simp [hs]), ok_bind]
  rfl

theorem divide2I_of_typed (hty : isFloaty ty = false) (hread : s.readable [r] = true)
    (hr : (s.rd (s.npc (3 + n.extLen)) r).ty = ty) :
    divide2I upd d r n s = outcome (divide ty (valOf ty (s.rd (s.npc (3 + n.extLen)) r).val) (valOf ty (immVal n (ctxOf ty))) >>=
      s.writeQuotient (s.npc (3 + n.extLen)) d ty upd) := by
  rw [divide2I, checkReads_of_readable hread, hr, ok_bind, typeCheck_of_typed hty (by simp), ok_bind]
  rfl

theorem execDdiv_of_typed (hty : isFloaty ty = false) (hread : s.readable [r, rs, rt] = true) (hr : (s.rd (s.npc 4) r).ty = ty)
    (hs : (s.rd (s.npc 4) rs).ty = ty) (ht : (s.rd (s.npc 4) rt).ty = ty) :
    execDdiv d r rs rt 0 u s = outcome (divide ty (dividend ty (s.rd (s.npc 4) rt).val (s.rd (s.npc 4) r).val)
      (valOf ty (s.rd (s.npc 4) rs).val) >>= s.writeQuotient (s.npc 4) d ty u) := by
  rw [execDdiv, checkZZ_zero, ok_bind, checkReads_of_readable hread, hr, ok_bind,
    typeCheck_of_typed hty (by simp [hs, ht]), ok_bind]
  rfl

theorem execDdivi_of_typed (hty : isFloaty ty = false) (hread : s.readable [r, rt] = true)
    (hr : (s.rd (s.npc (4 + n.extLen)) r).ty = ty) (ht : (s.rd (s.npc (4 + n.extLen)) rt).ty = ty) :
    execDdivi d r n rt 0 u s = outcome (divide ty
      (dividend ty (s.rd (s.npc (4 + n.extLen)) rt).val (s.rd (s.npc (4 + n.extLen)) r).val) (valOf ty (immVal n (ctxOf ty))) >>=
      s.writeQuotient (s.npc (4 + n.extLen)) d ty u) := by
  rw [execDdivi, checkZZ_zero, ok_bind, checkReads_of_readable hread, hr, ok_bind, typeCheck_of_typed hty (by simp [ht]), ok_bind]
  rfl

theorem execDdiv_of_zz {zz : BitVec 2} (h : zz ≠ 0) : execDdiv d r rs rt zz u s = .refused .operandModifier := by
  rw [execDdiv, checkZZ_of_ne h]
  rfl

theorem execDdivi_of_zz {zz : BitVec 2} (h : zz ≠ 0) : execDdivi d r n rt zz u s = .refused .operandModifier := by
  rw [execDdivi, checkZZ_of_ne h]
  rfl

/-- A DIV that completes read its operands, divided and ended as every division does. -/
theorem divide2_next {t : State} (h : divide2 upd d r rs s = .next t) :
    let ty := (s.rd (s.npc 3) r).ty
    let a := valOf ty (s.rd (s.npc 3) r).val
    let b := valOf ty (s.rd (s.npc 3) rs).val
    b ≠ 0 ∧ quotientFits ty (a.tdiv b) = true ∧
      Writes s t (s.npc 3) d (BitVec.ofInt 32 (a.tdiv b)) ty (residueIf upd (BitVec.ofInt 32 (a.tmod b))) := by
  simp only [divide2, outcome_next, bind_ok, typeCheck_ok, divide_ok, pure_ok] at h
  obtain ⟨_, _, _, ⟨_, _, rfl⟩, _, ⟨hb, hfits, rfl⟩, rfl⟩ := h
  exact ⟨hb, hfits, s.writeBack_writes _ _ _ _ _⟩

end

/-! ## The double-length dividend (42_muldiv.md R196) -/

/-- The halves of an exact result without sign, put together again. -/
theorem dividend_of_halves {e : Int} (h0 : 0 ≤ e) (h1 : e < 2 ^ 64) : dividend .u (residueOf e) (resultOf e) = e := by
  have h := result_add_residue_unsigned h0 h1
  rw [dividend, valOf_of_ne_signed (by decide)]
  omega

/-! ## Overflow -/

theorem not_quotientFits_least : quotientFits .s ((valOf .s 0x80000000).tdiv (valOf .s 0xFFFFFFFF)) = false := by decide

/-- R196: without sign, the quotient passes the word exactly where the upper half is not below the divisor. -/
theorem not_quotientFits_unsigned {upper lower v : Word} (hv : v ≠ 0) (hle : v ≤ upper) :
    quotientFits .u ((dividend .u upper lower).tdiv (valOf .u v)) = false := by
  have hpos : 0 < v.toNat := Nat.pos_of_ne_zero fun h => hv (BitVec.eq_of_toNat_eq h)
  have hle : v.toNat ≤ upper.toNat := hle
  have hquot : 2 ^ 32 ≤ (dividend .u upper lower).tdiv (valOf .u v) := by
    show (2 ^ 32 : Int) ≤ ((upper.toNat : Int) * 2 ^ 32 + lower.toNat).tdiv v.toNat
    rw [Int.tdiv_eq_ediv_of_nonneg (by positivity), Int.le_ediv_iff_mul_le (by exact_mod_cast hpos)]
    nlinarith
  rw [← Bool.not_eq_true, quotientFits_iff, if_neg (by decide)]
  omega

theorem not_quotientFits_signed {q : Int} (h : ¬ (-2 ^ 31 ≤ q ∧ q < 2 ^ 31)) : quotientFits .s q = false := by
  rw [← Bool.not_eq_true, quotientFits_iff, if_pos rfl]
  exact h

end Sys2Proof.Machine

namespace Sys2Proof.Proofs.Division

open Sys2Proof.Machine

/-- Settles O21: a quotient of words overflows in the excluded case only. -/
theorem divide : Obligations.Divide := by
  unfold Obligations.Divide
  refine ⟨List.forall_mem_cons.mpr ⟨?div, List.forall_mem_singleton.mpr ?divnu⟩,
    List.forall_mem_cons.mpr ⟨?divi, List.forall_mem_singleton.mpr ?divnui⟩⟩
  all_goals dsimp only [exec, execDiv, execDivnu, execDivi, execDivnui]
  case div | divnu =>
    intro d r rs s ty hty hread hr hs hb hover
    rw [divide2_of_typed hty hread hr hs]
    exact quotient_writes hb (quotientFits_of_inRange (valOf_inRange _ _) (valOf_inRange _ _) hover)
  case divi | divnui =>
    intro d r n s ty hty hread hr hb hover
    rw [divide2I_of_typed hty hread hr]
    exact quotient_writes hb (quotientFits_of_inRange (valOf_inRange _ _) (valOf_inRange _ _) hover)

/-- Settles O22: the premise says that the quotient fits. -/
theorem divideLong : Obligations.DivideLong := by
  unfold Obligations.DivideLong
  constructor
  all_goals dsimp only [exec]
  · intro d r rs rt u s ty hty hread hr hs ht hb hfits
    rw [execDdiv_of_typed hty hread hr hs ht]
    exact quotient_writes hb ((quotientFits_iff _ _).mpr hfits)
  · intro d r n rt u s ty hty hread hr ht hb hfits
    rw [execDdivi_of_typed hty hread hr ht]
    exact quotient_writes hb ((quotientFits_iff _ _).mpr hfits)

/-- Settles O23: the stops of `divide`, reached once the checks before it pass. -/
theorem divideStops : Obligations.DivideStops := by
  unfold Obligations.DivideStops
  refine ⟨List.forall_mem_cons.mpr ⟨?div, List.forall_mem_singleton.mpr ?divnu⟩,
    List.forall_mem_cons.mpr ⟨?divi, List.forall_mem_singleton.mpr ?divnui⟩, ?ddiv, ?ddivi, ?zz, ?zzi⟩
  all_goals dsimp only [exec, execDiv, execDivnu, execDivi, execDivnui]
  case div | divnu =>
    intro d r rs s ty hty hread hr hs
    rw [divide2_of_typed hty hread hr hs]
    refine ⟨fun hv => quotient_byZero _ ((valOf_eq_zero_iff _ _).mpr hv), fun hsigned ha hb => ?_⟩
    rw [hsigned, ha, hb]
    exact quotient_overflow _ (by decide) not_quotientFits_least
  case divi | divnui =>
    intro d r n s ty hty hread hr
    rw [divide2I_of_typed hty hread hr]
    refine ⟨fun hv => quotient_byZero _ ((valOf_eq_zero_iff _ _).mpr hv), fun hsigned ha hb => ?_⟩
    rw [hsigned, ha]
    change outcome (Machine.divide .s _ (valOf .s (immVal n .signed)) >>= _) = _
    rw [hb]
    exact quotient_overflow _ (by decide) not_quotientFits_least
  case ddiv =>
    intro d r rs rt u s ty hty hread hr hs ht
    rw [execDdiv_of_typed hty hread hr hs ht]
    have hne : ∀ {v}, v ≠ 0 → valOf ty v ≠ 0 := fun {v} => mt (valOf_eq_zero_iff ty v).mp
    refine ⟨fun hv => quotient_byZero _ ((valOf_eq_zero_iff _ _).mpr hv), fun hu hv hle => ?_, fun hsigned hv hfits => ?_⟩
    · exact quotient_overflow _ (hne hv) (by rw [hu]; exact not_quotientFits_unsigned hv hle)
    · exact quotient_overflow _ (hne hv) (by subst hsigned; exact not_quotientFits_signed hfits)
  case ddivi =>
    intro d r n rt u s ty hty hread hr ht
    rw [execDdivi_of_typed hty hread hr ht]
    have hne : ∀ {v}, v ≠ 0 → valOf ty v ≠ 0 := fun {v} => mt (valOf_eq_zero_iff ty v).mp
    refine ⟨fun hv => quotient_byZero _ ((valOf_eq_zero_iff _ _).mpr hv), fun hu hv hle => ?_, fun hsigned hv hfits => ?_⟩
    · exact quotient_overflow _ (hne hv) (by subst hu; exact not_quotientFits_unsigned hv hle)
    · exact quotient_overflow _ (hne hv) (by subst hsigned; exact not_quotientFits_signed hfits)
  case zz => exact fun _ _ _ _ _ _ _ => execDdiv_of_zz
  case zzi => exact fun _ _ _ _ _ _ _ => execDdivi_of_zz

/-- Settles O24: both words a DIV writes stand for the integers it computed. -/
theorem divideIdentity : Obligations.DivideIdentity := by
  unfold Obligations.DivideIdentity
  intro d r rs s t h28 h31 h
  obtain ⟨hb, hfits, hwrites⟩ := divide2_next h
  obtain ⟨hdest, hresidue⟩ := hwrites.halves h28 h31
  have ha := valOf_inRange (s.rd (s.npc 3) r).ty (s.rd (s.npc 3) r).val
  rw [hdest, hresidue]
  intro ty
  rw [valOf_ofInt (tdiv_inRange ha (valOf_inRange _ _) hfits), valOf_ofInt (tmod_inRange ha _)]
  exact ⟨(Int.tdiv_mul_add_tmod _ _).symm, abs_tmod_lt _ hb⟩

/-- Settles O25: the two halves MUL leaves are the dividend DDIV reads, and it is a multiple of the divisor. -/
theorem divideUndoesMultiply : Obligations.DivideUndoesMultiply := by
  unfold Obligations.DivideUndoesMultiply
  intro d lo r rs s t hlo28 hlo31 hd28 hd31 hrs28 hrs31 hrslo hr hs hne h
  generalize hx : (s.rd (s.npc 3) r).val = x
  generalize hy : (s.reg rs).val = y at hne
  have hmul : Writes s t (s.npc 3) lo (resultOf (x.toNat * y.toNat)) .u (.put (residueOf (x.toNat * y.toNat))) := by
    have hnext := arith2_next h
    rwa [hr, hx, State.rd_of_ne s _ rs hrs31, hy] at hnext
  obtain ⟨hlo, hhi⟩ := hmul.halves hlo28 hlo31
  have hread : t.readable [lo, rs, 28] = true := State.readable_of_found t _ (by rw [hmul.lost]; exact beq_false_of_ne hlo28)
  have hfactor : t.rd (t.npc 4) rs = { val := y, ty := .u } := by
    rw [State.rd_of_ne t _ rs hrs31, hmul.regs rs hrs31 (by simp [hrslo, hrs28]), ← hy, ← hs]
  rw [← State.rd_of_ne t (t.npc 4) lo hlo31] at hlo
  rw [← State.rd_of_ne t (t.npc 4) 28 (by decide)] at hhi
  have hprod : (x.toNat * y.toNat : Int) < 2 ^ 64 := by exact_mod_cast mul_toNat_lt x y
  have hy0 : (y.toNat : Int) ≠ 0 := mt (valOf_eq_zero_iff .u y).mp hne
  have hquot : (x.toNat * y.toNat : Int).tdiv y.toNat = x.toNat := Int.mul_tdiv_cancel _ hy0
  have hrem : (x.toNat * y.toNat : Int).tmod y.toNat = 0 := Int.mul_tmod_left _ _
  have hx32 : (x.toNat : Int) < 2 ^ 32 := by exact_mod_cast x.isLt
  have hfits : quotientFits .u ((x.toNat * y.toNat : Int).tdiv y.toNat) = true := by
    rw [hquot, quotientFits_iff]
    exact hx32
  dsimp only [exec]
  rw [execDdiv_of_typed (ty := .u) rfl hread (by rw [hlo]) (by rw [hfactor]) (by rw [hhi]), hlo, hhi, hfactor,
    dividend_of_halves (by positivity) hprod, valOf_of_ne_signed (by decide)]
  obtain ⟨v, hv, hwrites⟩ := quotient_writes (s := t) (npc := t.npc 4) (d := d) (upd := true) hy0 hfits
  obtain ⟨hdest, hresidue⟩ := hwrites.halves hd28 hd31
  refine ⟨v, hv, ?_, ?_⟩
  · rw [hdest, hquot, BitVec.ofInt_natCast, BitVec.ofNat_toNat, BitVec.setWidth_eq]
  · rw [hresidue, hrem]
    rfl

end Sys2Proof.Proofs.Division
end

section
/-!
The shifts and rotates (43_shift_bitfield.md sections 1 to 3): the shift functions as arithmetic, at one register and at the
double length, and the shared operations on operands that pass their checks.
-/
namespace Sys2Proof.Machine

/-! ## The shift functions as arithmetic (43_shift_bitfield.md R201) -/

section
variable {w : Nat}

theorem setWidth_ofNat_of_le (hw : 32 ≤ w) (n : Nat) : (BitVec.ofNat w n).setWidth 32 = BitVec.ofNat 32 n := by
  apply BitVec.eq_of_toNat_eq
  rw [BitVec.toNat_setWidth, BitVec.toNat_ofNat, BitVec.toNat_ofNat, Nat.mod_mod_of_dvd _ (Nat.pow_dvd_pow 2 hw)]

theorem setWidth_ofInt_of_le (hw : 32 ≤ w) (x : Int) : (BitVec.ofInt w x).setWidth 32 = BitVec.ofInt 32 x := by
  apply BitVec.eq_of_toNat_eq
  have hpow : (2 ^ 32 : Int) ∣ 2 ^ w := pow_dvd_pow 2 hw
  have hnonneg : 0 ≤ x % 2 ^ w := Int.emod_nonneg _ (by positivity)
  have hmod := Int.emod_emod_of_dvd x hpow
  rw [BitVec.toNat_setWidth, BitVec.toNat_ofInt, BitVec.toNat_ofInt]
  push_cast
  omega

theorem ushiftRight_eq_ofNat (a : BitVec w) (k : Nat) : a >>> k = BitVec.ofNat w (a.toNat / 2 ^ k) := by
  apply BitVec.eq_of_toNat_eq
  rw [BitVec.toNat_ushiftRight, BitVec.toNat_ofNat, Nat.shiftRight_eq_div_pow,
    Nat.mod_eq_of_lt (lt_of_le_of_lt (Nat.div_le_self _ _) a.isLt)]

theorem shiftLeft_eq_ofNat (a : BitVec w) (k : Nat) : a <<< k = BitVec.ofNat w (a.toNat * 2 ^ k) := by
  apply BitVec.eq_of_toNat_eq
  rw [BitVec.toNat_shiftLeft, BitVec.toNat_ofNat, Nat.shiftLeft_eq]

theorem sshiftRight_eq_ofInt (a : BitVec w) (k : Nat) : a.sshiftRight k = BitVec.ofInt w (a.toInt / 2 ^ k) := by
  rw [BitVec.sshiftRight_eq, Int.shiftRight_eq_div_pow]
  norm_cast

/-- A rotation is the sum of the two parts it moves, which do not overlap. -/
theorem rotateRight_eq_ofNat (a : BitVec w) {k : Nat} (hk : k < w) :
    a.rotateRight k = BitVec.ofNat w (a.toNat / 2 ^ k + a.toNat * 2 ^ (w - k)) := by
  have hsplit : 2 ^ w = 2 ^ (w - k) * 2 ^ k := by rw [← Nat.pow_add, Nat.sub_add_cancel hk.le]
  have hlow : a.toNat / 2 ^ k < 2 ^ (w - k) := Nat.div_lt_of_lt_mul (by rw [Nat.mul_comm, ← hsplit]; exact a.isLt)
  have hhigh : a.toNat * 2 ^ (w - k) % 2 ^ w = 2 ^ (w - k) * (a.toNat % 2 ^ k) := by
    rw [hsplit, Nat.mul_comm a.toNat, Nat.mul_mod_mul_left]
  have hsum : a.toNat / 2 ^ k + 2 ^ (w - k) * (a.toNat % 2 ^ k) < 2 ^ w := by
    have hmod : a.toNat % 2 ^ k + 1 ≤ 2 ^ k := Nat.mod_lt _ (by positivity)
    have hmul := Nat.mul_le_mul_left (2 ^ (w - k)) hmod
    rw [← hsplit, Nat.mul_add] at hmul
    omega
  apply BitVec.eq_of_toNat_eq
  calc (a.rotateRight k).toNat
    _ = a.toNat / 2 ^ k ||| a.toNat * 2 ^ (w - k) % 2 ^ w := by
      rw [BitVec.toNat_rotateRight, Nat.mod_eq_of_lt hk, Nat.shiftRight_eq_div_pow, Nat.shiftLeft_eq]
    _ = 2 ^ (w - k) * (a.toNat % 2 ^ k) + a.toNat / 2 ^ k := by
      rw [hhigh, Nat.or_comm, ← Nat.two_pow_add_eq_or_of_lt hlow]
    _ = (a.toNat / 2 ^ k + a.toNat * 2 ^ (w - k)) % 2 ^ w := by
      rw [← Nat.add_mod_mod, hhigh, Nat.mod_eq_of_lt hsum, Nat.add_comm]
    _ = (BitVec.ofNat w (a.toNat / 2 ^ k + a.toNat * 2 ^ (w - k))).toNat := (BitVec.toNat_ofNat _ _).symm

theorem lsrBy_low (hw : 32 ≤ w) (a : BitVec w) (k : Int) : (lsrBy a k).setWidth 32 =
    if 0 ≤ k then BitVec.ofNat 32 (a.toNat / 2 ^ k.toNat) else BitVec.ofNat 32 (a.toNat * 2 ^ (-k).toNat) := by
  unfold lsrBy
  split
  · rw [ushiftRight_eq_ofNat, setWidth_ofNat_of_le hw]
  · rw [shiftLeft_eq_ofNat, setWidth_ofNat_of_le hw]

theorem asrBy_low (hw : 32 ≤ w) (a : BitVec w) (k : Int) : (asrBy a k).setWidth 32 =
    if 0 ≤ k then BitVec.ofInt 32 (a.toInt / 2 ^ k.toNat) else BitVec.ofNat 32 (a.toNat * 2 ^ (-k).toNat) := by
  unfold asrBy
  split
  · rw [sshiftRight_eq_ofInt, setWidth_ofInt_of_le hw]
  · rw [shiftLeft_eq_ofNat, setWidth_ofNat_of_le hw]

theorem rorBy_low (hw : 32 ≤ w) (a : BitVec w) (k : Int) : (rorBy a k).setWidth 32 =
    BitVec.ofNat 32 (a.toNat / 2 ^ (k % w).toNat + a.toNat * 2 ^ (w - (k % w).toNat)) := by
  have hpos : (0 : Int) < w := by omega
  have hnonneg := Int.emod_nonneg k hpos.ne'
  have hlt := Int.emod_lt_of_pos k hpos
  rw [rorBy, rotateRight_eq_ofNat a (by omega), setWidth_ofNat_of_le hw]

end

/-- At one register the low word is the result itself. -/
theorem lsrBy_word (a : Word) (k : Int) : lsrBy a k =
    if 0 ≤ k then BitVec.ofNat 32 (a.toNat / 2 ^ k.toNat) else BitVec.ofNat 32 (a.toNat * 2 ^ (-k).toNat) := by
  rw [← lsrBy_low (Nat.le_refl 32), BitVec.setWidth_eq]

theorem asrBy_word (a : Word) (k : Int) : asrBy a k =
    if 0 ≤ k then BitVec.ofInt 32 (a.toInt / 2 ^ k.toNat) else BitVec.ofNat 32 (a.toNat * 2 ^ (-k).toNat) := by
  rw [← asrBy_low (Nat.le_refl 32), BitVec.setWidth_eq]

theorem rorBy_word (a : Word) (k : Int) : rorBy a k =
    BitVec.ofNat 32 (a.toNat / 2 ^ (k % 32).toNat + a.toNat * 2 ^ (32 - (k % 32).toNat)) := by
  rw [← BitVec.setWidth_eq (x := rorBy a k), rorBy_low (Nat.le_refl 32)]
  rfl

theorem forall_mem_three {α : Type} {P : α → Prop} {a b c : α} (ha : P a) (hb : P b) (hc : P c) : ∀ x ∈ [a, b, c], P x :=
  List.forall_mem_cons.mpr ⟨ha, List.forall_mem_cons.mpr ⟨hb, List.forall_mem_singleton.mpr hc⟩⟩

/-! ## The checks of the shifts and bit fields -/

section
variable {s : State} {l : List RegNum} {tys : List TyCode}

/-- How an instruction ends whose first two checks are the reads of the registers `reads` and that no type of `tys` is float
or Posit. -/
structure FloatyStops (out : Out) (s : State) (reads : List RegNum) (tys : List TyCode) : Prop where
  unwritten : s.readable reads = false → out = .fault (.unwrittenRegister 28)
  floaty : s.readable reads = true → tys.any isFloaty = true → out = .refused .floatOrPosit

theorem floatyStops (s : State) (reads : List RegNum) (tys : List TyCode) (k : Unit → Res State) :
    FloatyStops (outcome (s.checkReads reads >>= fun _ => refuseFloaty tys >>= k)) s reads tys where
  unwritten h := outcome_of_unreadable h _
  floaty h hf := by rw [outcome_of_readable h, refuseFloaty_of_floaty hf, error_bind, outcome_refused]

/-- What such an instruction does past these checks. -/
theorem outcome_past_floaty (h : s.readable l = true) (htys : ∀ ty ∈ tys, isFloaty ty = false) (k : Unit → Res State) :
    outcome (s.checkReads l >>= fun _ => refuseFloaty tys >>= k) = outcome (k ()) := by
  rw [outcome_of_readable h, refuseFloaty_of_typed htys, ok_bind]

theorem checkCount_of_lt {w : Nat} {k : Int} (h : -(w : Int) < k ∧ k < w) : checkCount w k = .ok () := (checkCount_ok w k ()).mpr h

theorem checkCount_of_le {w : Nat} {k : Int} (h : w ≤ |k|) : checkCount w k = .error (.refused .shiftCountRange) :=
  refuseIf_of (by rcases le_abs'.mp h with h | h <;> omega) _

theorem checkShiftImm_of_not_wide {n : Imm5} (h : isWide n = false) : checkShiftImm n = .ok () := (checkShiftImm_ok n ()).mpr h

theorem checkShiftImm_wide (v : BitVec 12) : checkShiftImm (.wide v) = .error (.refused .shiftLocLen) := rfl

end

/-! ## The shifts past the checks of their operands -/

section
variable {s : State} {d r rs rt : RegNum} {n : Imm5} {u : Bool} {check : Int → Res Unit} {f : Word → Int → Word}
  {g : BitVec 64 → Int → BitVec 64}

/-- The end of every shift: the range check of the count, then the result to D with the type of R. -/
def State.shiftEnd (s : State) (check : Int → Res Unit) (npc : Word) (d r : RegNum) (k : Int) (v : Word) (res : ResidueEffect) :
    Out :=
  outcome (check k >>= fun _ => .ok (s.writeBack npc d v (s.rd npc r).ty res))

theorem shiftEnd_writes {npc v : Word} {k : Int} {res : ResidueEffect} (h : check k = .ok ()) :
    ∃ t, s.shiftEnd check npc d r k v res = .next t ∧ Writes s t npc d v (s.rd npc r).ty res := by
  refine ⟨_, ?_, s.writeBack_writes _ _ _ _ _⟩
  rw [State.shiftEnd, h, ok_bind, outcome_ok]

theorem shiftEnd_refused {npc v : Word} {k : Int} {res : ResidueEffect} {e : Refusal} (h : check k = .error (.refused e)) :
    s.shiftEnd check npc d r k v res = .refused e := by
  rw [State.shiftEnd, h, error_bind, outcome_refused]

theorem shift1_eq (hread : s.readable [r, rs] = true) (hty : isFloaty (s.rd (s.npc 3) r).ty = false) :
    shift1 check f d r rs s = s.shiftEnd check (s.npc 3) d r (s.rd (s.npc 3) rs).val.toInt
      (f (s.rd (s.npc 3) r).val (s.rd (s.npc 3) rs).val.toInt) .keep :=
  outcome_past_floaty hread (by simpa using hty) _

theorem shift1I_eq (hread : s.readable [r] = true) (hn : isWide n = false) (hty : isFloaty (s.rd (s.npc (3 + n.extLen)) r).ty = false) :
    shift1I check f d r n s = s.shiftEnd check (s.npc (3 + n.extLen)) d r (immVal n .disp).toInt
      (f (s.rd (s.npc (3 + n.extLen)) r).val (immVal n .disp).toInt) .keep := by
  rw [shift1I, checkShiftImm_of_not_wide hn, ok_bind]
  exact outcome_past_floaty hread (by simpa using hty) _

theorem shift2_eq (hread : s.readable [r, rs, rt] = true) (hr : isFloaty (s.rd (s.npc 4) r).ty = false)
    (ht : isFloaty (s.rd (s.npc 4) rt).ty = false) :
    shift2 check g d r rs rt 0 u s = s.shiftEnd check (s.npc 4) d r (s.rd (s.npc 4) rs).val.toInt
      ((g (pair (s.rd (s.npc 4) rt).val (s.rd (s.npc 4) r).val) (s.rd (s.npc 4) rs).val.toInt).setWidth 32) (unstatedIf u) :=
  outcome_past_floaty hread (by simp [hr, ht]) _

theorem shift2I_eq (hread : s.readable [r, rt] = true) (hn : isWide n = false)
    (hr : isFloaty (s.rd (s.npc (4 + n.extLen)) r).ty = false) (ht : isFloaty (s.rd (s.npc (4 + n.extLen)) rt).ty = false) :
    shift2I check g d r n rt 0 u s = s.shiftEnd check (s.npc (4 + n.extLen)) d r (immVal n .disp).toInt
      ((g (pair (s.rd (s.npc (4 + n.extLen)) rt).val (s.rd (s.npc (4 + n.extLen)) r).val) (immVal n .disp).toInt).setWidth 32)
      (unstatedIf u) := by
  rw [shift2I, checkZZ_zero, ok_bind, checkShiftImm_of_not_wide hn, ok_bind]
  exact outcome_past_floaty hread (by simp [hr, ht]) _

/-! ## How the shifts stop -/

theorem shift1_stops : FloatyStops (shift1 check f d r rs s) s [r, rs] [(s.rd (s.npc 3) r).ty] := floatyStops ..

theorem shift1I_stops (hn : isWide n = false) :
    FloatyStops (shift1I check f d r n s) s [r] [(s.rd (s.npc (3 + n.extLen)) r).ty] := by
  rw [shift1I, checkShiftImm_of_not_wide hn, ok_bind]
  exact floatyStops ..

theorem shift2_stops :
    FloatyStops (shift2 check g d r rs rt 0 u s) s [r, rs, rt] [(s.rd (s.npc 4) r).ty, (s.rd (s.npc 4) rt).ty] := floatyStops ..

theorem shift2I_stops (hn : isWide n = false) : FloatyStops (shift2I check g d r n rt 0 u s) s [r, rt]
    [(s.rd (s.npc (4 + n.extLen)) r).ty, (s.rd (s.npc (4 + n.extLen)) rt).ty] := by
  rw [shift2I, checkZZ_zero, ok_bind, checkShiftImm_of_not_wide hn, ok_bind]
  exact floatyStops ..

theorem shift1I_wide (v : BitVec 12) : shift1I check f d r (.wide v) s = .refused .shiftLocLen := rfl

theorem shift2I_wide (v : BitVec 12) : shift2I check g d r (.wide v) rt 0 u s = .refused .shiftLocLen := rfl

theorem shift2_of_zz {zz : BitVec 2} (h : zz ≠ 0) : shift2 check g d r rs rt zz u s = .refused .operandModifier := by
  rw [shift2, checkZZ_of_ne h]
  rfl

theorem shift2I_of_zz {zz : BitVec 2} (h : zz ≠ 0) : shift2I check g d r n rt zz u s = .refused .operandModifier := by
  rw [shift2I, checkZZ_of_ne h]
  rfl

/-- A shift of one register that completes passed its checks. -/
theorem shift1_next {t : State} (h : shift1 check f d r rs s = .next t) : isFloaty (s.rd (s.npc 3) r).ty = false ∧
    Writes s t (s.npc 3) d (f (s.rd (s.npc 3) r).val (s.rd (s.npc 3) rs).val.toInt) (s.rd (s.npc 3) r).ty .keep := by
  simp only [shift1, outcome_next, bind_ok, refuseFloaty_ok, pure_ok] at h
  obtain ⟨_, _, _, hty, _, _, rfl⟩ := h
  exact ⟨hty _ List.mem_cons_self, s.writeBack_writes _ _ _ _ _⟩

end

/-! ## Rotating back -/

/-- Bit `i` of a rotated word is bit `i + m`, counted around the word. -/
theorem getLsbD_rotateRight_mod {w i : Nat} (m : Nat) (a : BitVec w) (hi : i < w) :
    (a.rotateRight m).getLsbD i = a.getLsbD ((i + m) % w) := by
  have hm : m % w < w := Nat.mod_lt _ (by omega)
  rw [BitVec.getLsbD_rotateRight, ← Nat.add_mod_mod]
  generalize m % w = m at hm
  by_cases hlow : i < w - m
  · have hindex : (i + m) % w = m + i := by rw [Nat.mod_eq_of_lt (by omega), Nat.add_comm]
    rw [hindex, decide_eq_true hlow, cond_true]
  · have hindex : (i + m) % w = i - (w - m) := by
      rw [Nat.mod_eq_sub_mod (by omega), Nat.mod_eq_of_lt (by omega)]
      omega
    rw [hindex, decide_eq_false hlow, cond_false, decide_eq_true hi, Bool.true_and]

/-- Two rotations whose counts make up whole turns cancel. -/
theorem rotateRight_rotateRight_of_turn {w m n : Nat} (h : (m + n) % w = 0) (a : BitVec w) :
    (a.rotateRight m).rotateRight n = a := by
  apply BitVec.eq_of_getLsbD_eq
  intro i hi
  have hturn : ((i + n) % w + m) % w = i := by
    rw [Nat.mod_add_mod, Nat.add_assoc, Nat.add_comm n m, ← Nat.add_mod_mod, h, Nat.add_zero, Nat.mod_eq_of_lt hi]
  rw [getLsbD_rotateRight_mod n _ hi, getLsbD_rotateRight_mod m _ (Nat.mod_lt _ (by omega)), hturn]

theorem rorBy_rorBy_neg (a v : Word) : rorBy (rorBy a v.toInt) (-v).toInt = a := by
  refine rotateRight_rotateRight_of_turn ?_ a
  have hv : v.toNat < 2 ^ 32 := v.isLt
  rw [BitVec.toInt_eq_toNat_cond, BitVec.toInt_eq_toNat_cond, BitVec.toNat_neg]
  split <;> split <;> omega

end Sys2Proof.Machine

namespace Sys2Proof.Proofs.Shifts

open Sys2Proof.Machine

/-- Settles O26: the shift functions at one register are the arithmetic of the statement. -/
theorem shiftSingle : Obligations.ShiftSingle := by
  unfold Obligations.ShiftSingle
  refine ⟨forall_mem_three ?lsr ?asr ?ror, forall_mem_three ?lsri ?asri ?rori⟩
  all_goals dsimp only [exec, execLsr, execAsr, execRor, execLsri, execAsri, execRori]
  case lsr =>
    intro d r rs s hread hty hk
    rw [shift1_eq hread hty, ← lsrBy_word]
    exact shiftEnd_writes (checkCount_of_lt (hk rfl))
  case asr =>
    intro d r rs s hread hty hk
    rw [shift1_eq hread hty, ← asrBy_word]
    exact shiftEnd_writes (checkCount_of_lt (hk rfl))
  case ror =>
    intro d r rs s hread hty _
    rw [shift1_eq hread hty, ← rorBy_word]
    exact shiftEnd_writes rfl
  case lsri =>
    intro d r n s hread hn hty hk
    rw [shift1I_eq hread hn hty, ← lsrBy_word]
    exact shiftEnd_writes (checkCount_of_lt (hk rfl))
  case asri =>
    intro d r n s hread hn hty hk
    rw [shift1I_eq hread hn hty, ← asrBy_word]
    exact shiftEnd_writes (checkCount_of_lt (hk rfl))
  case rori =>
    intro d r n s hread hn hty _
    rw [shift1I_eq hread hn hty, ← rorBy_word]
    exact shiftEnd_writes rfl

/-- Settles O27: the low word of the shift functions at the double length. -/
theorem shiftDouble : Obligations.ShiftDouble := by
  unfold Obligations.ShiftDouble
  have hw : 32 ≤ 64 := by decide
  refine ⟨forall_mem_three ?shr ?asrD ?rorD, forall_mem_three ?shri ?asriD ?roriD⟩
  all_goals dsimp only [exec, execShr, execAsrD, execRorD, execShri, execAsriD, execRoriD]
  case shr =>
    intro d r rs rt u s hread hr ht hk
    rw [shift2_eq hread hr ht, ← lsrBy_low hw]
    exact shiftEnd_writes (checkCount_of_lt (hk rfl))
  case asrD =>
    intro d r rs rt u s hread hr ht hk
    rw [shift2_eq hread hr ht, ← asrBy_low hw]
    exact shiftEnd_writes (checkCount_of_lt (hk rfl))
  case rorD =>
    intro d r rs rt u s hread hr ht _
    rw [shift2_eq hread hr ht, rorBy_low hw]
    exact shiftEnd_writes rfl
  case shri =>
    intro d r n rt u s hread hn hr ht hk
    rw [shift2I_eq hread hn hr ht, ← lsrBy_low hw]
    exact shiftEnd_writes (checkCount_of_lt (hk rfl))
  case asriD =>
    intro d r n rt u s hread hn hr ht hk
    rw [shift2I_eq hread hn hr ht, ← asrBy_low hw]
    exact shiftEnd_writes (checkCount_of_lt (hk rfl))
  case roriD =>
    intro d r n rt u s hread hn hr ht _
    rw [shift2I_eq hread hn hr ht, rorBy_low hw]
    exact shiftEnd_writes rfl

/-- Settles O31: the second count is the negation of the first modulo the width. -/
theorem rotateInverse : Obligations.RotateInverse := by
  unfold Obligations.RotateInverse
  intro d r k k' s t h31 h hread hcount
  have hrot : Writes s t (s.npc 3) d (rorBy (s.rd (s.npc 3) r).val (s.rd (s.npc 3) k).val.toInt) (s.rd (s.npc 3) r).ty .keep :=
    (shift1_next h).2
  have hty := (shift1_next h).1
  have hdest : t.rd (t.npc 3) d = { val := rorBy (s.rd (s.npc 3) r).val (s.rd (s.npc 3) k).val.toInt, ty := (s.rd (s.npc 3) r).ty } := by
    rw [State.rd_of_ne t _ d h31]
    exact hrot.dest h31 fun _ => rfl
  have hreads : t.readable [d, k'] = true := by
    rw [readable_iff] at hread ⊢
    intro hlost hmem
    obtain hd | hmem := List.mem_cons.mp hmem
    · rw [hrot.lost, ← hd] at hlost
      exact Bool.false_ne_true ((Bool.and_false _).symm.trans hlost)
    · exact hread hlost hmem
  obtain ⟨v, hv, hwrites⟩ := shiftEnd_writes (s := t) (check := anyCount) (npc := t.npc 3) (d := d) (r := d)
    (v := (s.rd (s.npc 3) r).val) (k := (-(s.rd (s.npc 3) k).val).toInt) (res := .keep) rfl
  refine ⟨v, ?_, ?_⟩
  · dsimp only [exec, execRor]
    rw [shift1_eq hreads (by rw [hdest, hty]), hdest, hcount, rorBy_rorBy_neg]
    exact hv
  · rw [hwrites.dest h31 fun _ => rfl, hdest]

end Sys2Proof.Proofs.Shifts
end

section
/-!
The bit fields (43_shift_bitfield.md section 4): the field a descriptor names, its extraction and its insertion bit by bit,
and the shared operations on operands that pass their checks.
-/
namespace Sys2Proof.Machine

/-! ## Fields as arithmetic and bit by bit -/

/-- R37: sign extension subtracts the weight of the width from a datum whose top bit is set. -/
theorem lengthen_eq_ite {w : Nat} (hw : 0 < w) (ty : TyCode) (v : BitVec w) : lengthen ty v =
    if ty = .s ∧ 2 ^ (w - 1) ≤ v.toNat then BitVec.ofInt 32 ((v.toNat : Int) - 2 ^ w) else BitVec.ofNat 32 v.toNat := by
  have hpow : 2 ^ w = 2 * 2 ^ (w - 1) := by rw [← Nat.pow_succ', Nat.succ_eq_add_one, Nat.sub_add_cancel hw]
  by_cases hty : ty = .s
  · rw [hty, lengthen_signed, BitVec.signExtend, BitVec.toInt_eq_toNat_cond]
    by_cases hneg : 2 ^ (w - 1) ≤ v.toNat
    · rw [if_neg (by omega), if_pos ⟨rfl, hneg⟩]
      norm_cast
    · rw [if_pos (by omega), if_neg fun h => hneg h.2, BitVec.ofInt_natCast]
  · rw [lengthen_of_ne_signed hty, if_neg fun h => hty h.1, BitVec.ofNat_toNat]

/-- R215, R217: the field by its number. -/
theorem extractField_eq {w : Nat} (ty : TyCode) (src : BitVec w) (loc : Nat) {len : Nat} (hlen : len ≠ 0) :
    let f := src.toNat / 2 ^ loc % 2 ^ len
    extractField ty src loc len =
      if ty = .s ∧ 2 ^ (len - 1) ≤ f then BitVec.ofInt 32 ((f : Int) - 2 ^ len) else BitVec.ofNat 32 f := by
  have hf : (src.extractLsb' loc len).toNat = src.toNat / 2 ^ loc % 2 ^ len := by
    rw [BitVec.extractLsb'_toNat, Nat.shiftRight_eq_div_pow]
  rw [extractField, lengthen_eq_ite (Nat.pos_of_ne_zero hlen), hf]

/-- R219: inside the field the bits of the insertion, outside those of the word. -/
theorem getLsbD_insertField (word field : Word) {loc len k : Nat} (hk : k < 32) : (insertField word field loc len).getLsbD k =
    if loc ≤ k ∧ k < loc + len then field.getLsbD (k - loc) else word.getLsbD k := by
  have hmask : (BitVec.ofNat 32 (2 ^ len - 1) <<< loc).getLsbD k = decide (loc ≤ k ∧ k < loc + len) := by
    rw [BitVec.getLsbD_shiftLeft, BitVec.getLsbD_ofNat, Nat.testBit_two_pow_sub_one]
    simp only [hk, decide_true, Bool.true_and]
    by_cases hlo : loc ≤ k
    · have hwithin : k - loc < len ↔ k < loc + len := by omega
      have hbit : k - loc < 32 := by omega
      simp [hlo, Nat.not_lt.mpr hlo, hwithin, hbit]
    · simp [hlo, Nat.lt_of_not_le hlo]
  rw [insertField, BitVec.getLsbD_or, BitVec.getLsbD_and, BitVec.getLsbD_and, BitVec.getLsbD_not, hmask, BitVec.getLsbD_shiftLeft]
  by_cases h : loc ≤ k ∧ k < loc + len
  · simp [h, hk]
  · simp [h, hk]

/-- The field inserted is read back. -/
theorem extractLsb'_insertField (word field : Word) {loc len : Nat} (h : loc + len ≤ 32) :
    (insertField word field loc len).extractLsb' loc len = field.extractLsb' 0 len := by
  apply BitVec.eq_of_getLsbD_eq
  intro i hi
  rw [BitVec.getLsbD_extractLsb', BitVec.getLsbD_extractLsb', getLsbD_insertField word field (by omega),
    if_pos ⟨Nat.le_add_right _ _, by omega⟩, Nat.add_sub_cancel_left, Nat.zero_add]

/-- R219: the word changed and the field inserted, of R and T, by `insrt_roles` (entry 10). -/
def insertOperands (r t : Word) : Word × Word :=
  match Config.insrtRoles with
  | .rIntoT => (t, r)
  | .tIntoR => (r, t)

theorem insertOperands_rIntoT (h : Config.insrtRoles = .rIntoT) (r t : Word) : insertOperands r t = (t, r) := by
  rw [insertOperands, h]

theorem insertOperands_tIntoR (h : Config.insrtRoles = .tIntoR) (r t : Word) : insertOperands r t = (r, t) := by
  rw [insertOperands, h]

/-! ## Descriptors (43_shift_bitfield.md R200 e) -/

theorem locLen_of_lt {fo : Word} (h : fo.toNat < 2 ^ 12) : locLen fo = .ok (fo.toNat / 64, fo.toNat % 64) := by
  have hloc : fo.toNat / 2 ^ 6 % 2 ^ 6 = fo.toNat / 64 := Nat.mod_eq_of_lt (by omega)
  exact (locLen_ok fo _).mpr ⟨h, congrArg (·, fo.toNat % 64) hloc.symm⟩

theorem locLen_of_le {fo : Word} (h : 2 ^ 12 ≤ fo.toNat) : locLen fo = .error (.refused .bitFieldRange) := by
  rw [locLen, refuseIf_of (by omega), error_bind]

/-- The number of the descriptor an immediate gives (entry 21). -/
theorem immDescriptor_toNat (n : Imm5) :
    (match n with | .wide v => v.toNat | _ => (immVal n .disp).toNat) = (immDescriptor n).toNat := by
  cases n with
  | wide v =>
    have h := v.isLt
    simp only [immDescriptor, BitVec.toNat_setWidth]
    omega
  | _ => rfl

/-! ## The end of a bit-field instruction -/

section
variable {s : State} {npc : Word} {d r rt : RegNum} {reads : List RegNum} {fo : Word} {u : Bool}

/-- The end of every bit-field instruction: the descriptor, the range check `bad`, and the result to D with the type of R. -/
def State.fieldEnd (s : State) (npc : Word) (d r : RegNum) (fo : Word) (bad : Nat → Nat → Prop) [DecidableRel bad]
    (v : Nat → Nat → Word) (res : ResidueEffect) : Out :=
  outcome (locLen fo >>= fun p => refuseIf (bad p.1 p.2) .bitFieldRange >>= fun _ =>
    .ok (s.writeBack npc d (v p.1 p.2) (s.rd npc r).ty res))

variable {bad : Nat → Nat → Prop} [DecidableRel bad] {v : Nat → Nat → Word} {res : ResidueEffect}

theorem fieldEnd_writes (hfo : fo.toNat < 2 ^ 12) (hgood : ¬ bad (fo.toNat / 64) (fo.toNat % 64)) :
    ∃ t, s.fieldEnd npc d r fo bad v res = .next t ∧
      Writes s t npc d (v (fo.toNat / 64) (fo.toNat % 64)) (s.rd npc r).ty res := by
  refine ⟨_, ?_, s.writeBack_writes _ _ _ _ _⟩
  rw [State.fieldEnd, locLen_of_lt hfo, ok_bind, refuseIf_of_not hgood, ok_bind, outcome_ok]

theorem fieldEnd_refused (h : 2 ^ 12 ≤ fo.toNat ∨ bad (fo.toNat / 64 % 64) (fo.toNat % 64)) :
    s.fieldEnd npc d r fo bad v res = .refused .bitFieldRange := by
  obtain hfo | hfo := Nat.lt_or_ge fo.toNat (2 ^ 12)
  · rw [Nat.mod_eq_of_lt (a := fo.toNat / 64) (by omega)] at h
    have hbad := h.resolve_left (by omega)
    rw [State.fieldEnd, locLen_of_lt hfo, ok_bind, refuseIf_of hbad, error_bind, outcome_refused]
  · rw [State.fieldEnd, locLen_of_le hfo, error_bind, outcome_refused]

theorem fieldEnd_next {t : State} (h : s.fieldEnd npc d r fo bad v res = .next t) :
    fo.toNat < 2 ^ 12 ∧ ¬ bad (fo.toNat / 64) (fo.toNat % 64) ∧
      Writes s t npc d (v (fo.toNat / 64) (fo.toNat % 64)) (s.rd npc r).ty res := by
  have hgood : ¬ (2 ^ 12 ≤ fo.toNat ∨ bad (fo.toNat / 64 % 64) (fo.toNat % 64)) := fun hbad =>
    nomatch (fieldEnd_refused hbad).symm.trans h
  rw [not_or] at hgood
  obtain ⟨hfo, hgood⟩ := hgood
  rw [Nat.mod_eq_of_lt (a := fo.toNat / 64) (by omega)] at hgood
  obtain ⟨t', ht, hwrites⟩ := fieldEnd_writes (s := s) (npc := npc) (d := d) (r := r) (v := v) (res := res) (by omega) hgood
  obtain rfl : t' = t := Host.Outcome.next.inj (ht.symm.trans h)
  exact ⟨by omega, hgood, hwrites⟩

/-- A field that is empty or passes a word. -/
abbrev PassesWord (loc len : Nat) : Prop := len = 0 ∨ 32 < loc + len

/-- A field that is empty, longer than a word or passes the double length. -/
abbrev PassesPair (loc len : Nat) : Prop := len = 0 ∨ 32 < len ∨ 64 < loc + len

theorem extract1_eq (hread : s.readable reads = true) (hr : isFloaty (s.rd npc r).ty = false) :
    extract1 npc d r reads fo s =
      s.fieldEnd npc d r fo PassesWord (extractField (s.rd npc r).ty (s.rd npc r).val) .keep :=
  outcome_past_floaty hread (by simpa using hr) _

theorem extract2_eq (hread : s.readable reads = true) (hr : isFloaty (s.rd npc r).ty = false)
    (ht : isFloaty (s.rd npc rt).ty = false) :
    extract2 npc d r rt reads fo 0 u s =
      s.fieldEnd npc d r fo PassesPair (extractField (s.rd npc r).ty (pair (s.rd npc rt).val (s.rd npc r).val)) (unstatedIf u) :=
  outcome_past_floaty hread (by simp [hr, ht]) _

theorem insert2_eq (hread : s.readable reads = true) (hr : isFloaty (s.rd npc r).ty = false)
    (ht : isFloaty (s.rd npc rt).ty = false) :
    insert2 npc d r rt reads fo 0 u s = s.fieldEnd npc d r fo PassesWord
      (insertField (insertOperands (s.rd npc r).val (s.rd npc rt).val).1 (insertOperands (s.rd npc r).val (s.rd npc rt).val).2)
      (unstatedIf u) := by
  cases hroles : Config.insrtRoles with
  | rIntoT =>
    rw [insertOperands_rIntoT hroles, insert2, hroles]
    exact outcome_past_floaty hread (by simp [hr, ht]) _
  | tIntoR =>
    rw [insertOperands_tIntoR hroles, insert2, hroles]
    exact outcome_past_floaty hread (by simp [hr, ht]) _

/-! The results, for a descriptor given by its number. -/

variable {m : Nat}

theorem extract1_writes (hm : m = fo.toNat) (hread : s.readable reads = true) (hr : isFloaty (s.rd npc r).ty = false)
    (hfo : m < 2 ^ 12) (hlen : m % 64 ≠ 0) (hfield : m / 64 + m % 64 ≤ 32) :
    let f := (s.rd npc r).val.toNat / 2 ^ (m / 64) % 2 ^ (m % 64)
    ∃ t, extract1 npc d r reads fo s = .next t ∧ Writes s t npc d
      (if (s.rd npc r).ty = .s ∧ 2 ^ (m % 64 - 1) ≤ f then BitVec.ofInt 32 ((f : Int) - 2 ^ (m % 64)) else BitVec.ofNat 32 f)
      (s.rd npc r).ty .keep := by
  subst hm
  rw [extract1_eq hread hr]
  dsimp only
  rw [← extractField_eq _ _ _ hlen]
  exact fieldEnd_writes hfo (by omega)

theorem extract2_writes (hm : m = fo.toNat) (hread : s.readable reads = true) (hr : isFloaty (s.rd npc r).ty = false)
    (ht : isFloaty (s.rd npc rt).ty = false) (hfo : m < 2 ^ 12) (hlen : m % 64 ≠ 0)
    (hfield : m % 64 ≤ 32 ∧ m / 64 + m % 64 ≤ 64) :
    let f := (pair (s.rd npc rt).val (s.rd npc r).val).toNat / 2 ^ (m / 64) % 2 ^ (m % 64)
    ∃ t, extract2 npc d r rt reads fo 0 u s = .next t ∧ Writes s t npc d
      (if (s.rd npc r).ty = .s ∧ 2 ^ (m % 64 - 1) ≤ f then BitVec.ofInt 32 ((f : Int) - 2 ^ (m % 64)) else BitVec.ofNat 32 f)
      (s.rd npc r).ty (unstatedIf u) := by
  subst hm
  rw [extract2_eq hread hr ht]
  dsimp only
  rw [← extractField_eq _ _ _ hlen]
  exact fieldEnd_writes hfo (by omega)

theorem insert2_writes (hm : m = fo.toNat) (hread : s.readable reads = true) (hr : isFloaty (s.rd npc r).ty = false)
    (ht : isFloaty (s.rd npc rt).ty = false) (hfo : m < 2 ^ 12) (hlen : m % 64 ≠ 0) (hfield : m / 64 + m % 64 ≤ 32) :
    let a := (s.rd npc r).val
    let c := (s.rd npc rt).val
    ∃ t v, insert2 npc d r rt reads fo 0 u s = .next t ∧ Writes s t npc d v (s.rd npc r).ty (unstatedIf u) ∧
      (Config.insrtRoles = .rIntoT → ∀ k < 32, v.getLsbD k =
        if m / 64 ≤ k ∧ k < m / 64 + m % 64 then a.getLsbD (k - m / 64) else c.getLsbD k) ∧
      (Config.insrtRoles = .tIntoR → ∀ k < 32, v.getLsbD k =
        if m / 64 ≤ k ∧ k < m / 64 + m % 64 then c.getLsbD (k - m / 64) else a.getLsbD k) := by
  subst hm
  intro a c
  rw [insert2_eq hread hr ht]
  obtain ⟨t, ht, hwrites⟩ := fieldEnd_writes (s := s) (npc := npc) (d := d) (r := r) (bad := PassesWord) (res := unstatedIf u)
    (v := insertField (insertOperands a c).1 (insertOperands a c).2) hfo (by omega)
  refine ⟨t, _, ht, hwrites, fun hroles k hk => ?_, fun hroles k hk => ?_⟩
  · rw [getLsbD_insertField _ _ hk, insertOperands_rIntoT hroles]
  · rw [getLsbD_insertField _ _ hk, insertOperands_tIntoR hroles]

/-- An insertion that completes passed the checks of its operands. -/
theorem insert2_next {t : State} (h : insert2 npc d r rt reads fo 0 u s = .next t) :
    s.readable reads = true ∧ isFloaty (s.rd npc r).ty = false ∧ fo.toNat < 2 ^ 12 ∧
      ¬ PassesWord (fo.toNat / 64) (fo.toNat % 64) ∧ Writes s t npc d
        (insertField (insertOperands (s.rd npc r).val (s.rd npc rt).val).1 (insertOperands (s.rd npc r).val (s.rd npc rt).val).2
          (fo.toNat / 64) (fo.toNat % 64)) (s.rd npc r).ty (unstatedIf u) := by
  have hchecks := h
  simp only [insert2, outcome_next, bind_ok, checkReads_ok, refuseFloaty_ok] at hchecks
  obtain ⟨_, _, _, hread, _, htys, _⟩ := hchecks
  have hr := htys _ List.mem_cons_self
  rw [insert2_eq hread hr (htys _ (List.mem_cons_of_mem _ List.mem_cons_self))] at h
  exact ⟨hread, hr, fieldEnd_next h⟩

/-! ## How the bit-field instructions stop -/

theorem extract1_stops : FloatyStops (extract1 npc d r reads fo s) s reads [(s.rd npc r).ty] := floatyStops ..

theorem extract2_stops : FloatyStops (extract2 npc d r rt reads fo 0 u s) s reads [(s.rd npc r).ty, (s.rd npc rt).ty] :=
  floatyStops ..

theorem insert2_stops : FloatyStops (insert2 npc d r rt reads fo 0 u s) s reads [(s.rd npc r).ty, (s.rd npc rt).ty] :=
  floatyStops ..

theorem extract2_of_zz {zz : BitVec 2} (h : zz ≠ 0) : extract2 npc d r rt reads fo zz u s = .refused .operandModifier := by
  rw [extract2, checkZZ_of_ne h]
  rfl

theorem insert2_of_zz {zz : BitVec 2} (h : zz ≠ 0) : insert2 npc d r rt reads fo zz u s = .refused .operandModifier := by
  rw [insert2, checkZZ_of_ne h]
  rfl

end

end Sys2Proof.Machine

namespace Sys2Proof.Proofs.BitFields

open Sys2Proof.Machine

/-- Settles O28: in all four forms the result is the field the descriptor names. -/
theorem extract : Obligations.Extract := by
  unfold Obligations.Extract
  refine ⟨?register, ?immediate, ?registerPair, ?immediatePair⟩
  all_goals dsimp only [exec, execExtrct, execExtrcti, execExtrctD, execExtrctiD]
  case register => exact fun _ _ _ _ => extract1_writes rfl
  case immediate => exact fun _ _ n _ => extract1_writes (immDescriptor_toNat n)
  case registerPair => exact fun _ _ _ _ _ _ => extract2_writes rfl
  case immediatePair => exact fun _ _ n _ _ _ => extract2_writes (immDescriptor_toNat n)

/-- Settles O29: both forms, with the roles of R and T left open. -/
theorem insert : Obligations.Insert := by
  unfold Obligations.Insert
  constructor
  all_goals dsimp only [exec, execInsrt, execInsrti]
  · exact fun _ _ _ _ _ _ => insert2_writes rfl
  · exact fun _ _ n _ _ _ => insert2_writes (immDescriptor_toNat n)

/-- Settles O32: the descriptor register survives INSRT, and the bits at the location are those inserted. -/
theorem extractInserted : Obligations.ExtractInserted := by
  unfold Obligations.ExtractInserted
  intro d d' r rs rt s t h31 h31' hrsd hrs31 h
  obtain ⟨hread, hr, hfo, hfield, hwrites⟩ := insert2_next h
  rw [PassesWord, not_or] at hfield
  have hdest := hwrites.dest h31 fun _ => rfl
  rw [← State.rd_of_ne t (t.npc 3) d h31] at hdest
  have hdescriptor : (t.rd (t.npc 3) rs).val = (s.rd (s.npc 4) rs).val := by
    rw [State.rd_of_ne t _ rs hrs31, State.rd_of_ne s _ rs hrs31, hwrites.regs rs hrs31]
    rintro (h | h)
    · exact hrsd h
    · exact h.2 rfl
  have hreads : t.readable [d, rs] = true := by
    rw [readable_iff] at hread ⊢
    intro hlost hmem
    have hboth : (s.residueLost && d != 28) = true := hwrites.lost.symm.trans hlost
    obtain ⟨hslost, hd⟩ := (Bool.and_eq_true _ _).mp hboth
    have hrs : 28 = rs := by simpa [Ne.symm (bne_iff_ne.mp hd)] using hmem
    exact hread hslost (by simp [hrs])
  intro len src
  have hsrc : (insertOperands (s.rd (s.npc 4) r).val (s.rd (s.npc 4) rt).val).2 = src := by
    cases hroles : Config.insrtRoles with
    | rIntoT => simp only [insertOperands_rIntoT hroles, src, hroles]
    | tIntoR => simp only [insertOperands_tIntoR hroles, src, hroles]
  have hlen : (s.rd (s.npc 4) rs).val.toNat % 64 = len := by
    rw [State.rd_of_ne s _ rs hrs31]
  obtain ⟨v, hv, hwrites'⟩ := fieldEnd_writes (s := t) (npc := t.npc 3) (d := d') (r := d) (fo := (t.rd (t.npc 3) rs).val)
    (v := extractField (t.rd (t.npc 3) d).ty (t.rd (t.npc 3) d).val) (bad := PassesWord) (res := .keep)
    (by rw [hdescriptor]; exact hfo) (by rw [hdescriptor, PassesWord, not_or]; exact hfield)
  refine ⟨v, ?_, ?_⟩
  · dsimp only [exec, execExtrct]
    rw [extract1_eq hreads (by rw [hdest]; exact hr)]
    exact hv
  · rw [hwrites'.dest h31' fun _ => rfl, hdest, hdescriptor, extractField, extractLsb'_insertField _ _ (by omega), hsrc]
    rw [hlen]

end Sys2Proof.Proofs.BitFields
end

section
/-!
Where the shifts and bit-field instructions stop (43_shift_bitfield.md, 60_exceptions.md section 1): the stops of their
shared operations, form by form.
-/
namespace Sys2Proof.Machine

section
variable {out : Out} {s : State} {d r rs rt : RegNum} {n : Imm5} {reads : List RegNum} {a c : TyCode} {npc fo : Word} {u : Bool}
  {zz : BitVec 2} {m : Nat}

/-! ## The clauses of the statement, by the number of operands that may not be float or Posit -/

theorem FloatyStops.one (h : FloatyStops out s reads [a]) :
    (s.readable reads = false → out = .fault (.unwrittenRegister 28)) ∧
      (s.readable reads = true → isFloaty a = true → out = .refused .floatOrPosit) :=
  ⟨h.unwritten, fun hr hf => h.floaty hr (by simpa using hf)⟩

theorem FloatyStops.two (h : FloatyStops out s reads [a, c]) :
    (s.readable reads = false → out = .fault (.unwrittenRegister 28)) ∧
      (s.readable reads = true → (isFloaty a || isFloaty c) = true → out = .refused .floatOrPosit) :=
  ⟨h.unwritten, fun hr hf => h.floaty hr (by simpa using hf)⟩

/-! ## Counts out of range -/

theorem shift1_count {f : Word → Int → Word} (hread : s.readable [r, rs] = true) (hr : isFloaty (s.rd (s.npc 3) r).ty = false)
    (hk : 32 ≤ |(s.rd (s.npc 3) rs).val.toInt|) : shift1 (checkCount 32) f d r rs s = .refused .shiftCountRange := by
  rw [shift1_eq hread hr]
  exact shiftEnd_refused (checkCount_of_le hk)

theorem shift1I_count {f : Word → Int → Word} (hn : isWide n = false) (hread : s.readable [r] = true)
    (hr : isFloaty (s.rd (s.npc (3 + n.extLen)) r).ty = false) (hk : 32 ≤ |(immVal n .disp).toInt|) :
    shift1I (checkCount 32) f d r n s = .refused .shiftCountRange := by
  rw [shift1I_eq hread hn hr]
  exact shiftEnd_refused (checkCount_of_le hk)

theorem shift2_count {g : BitVec 64 → Int → BitVec 64} (hread : s.readable [r, rs, rt] = true)
    (htys : (isFloaty (s.rd (s.npc 4) r).ty || isFloaty (s.rd (s.npc 4) rt).ty) = false)
    (hk : 64 ≤ |(s.rd (s.npc 4) rs).val.toInt|) : shift2 (checkCount 64) g d r rs rt 0 u s = .refused .shiftCountRange := by
  obtain ⟨hr, ht⟩ := Bool.or_eq_false_iff.mp htys
  rw [shift2_eq hread hr ht]
  exact shiftEnd_refused (checkCount_of_le hk)

theorem shift2I_count {g : BitVec 64 → Int → BitVec 64} (hn : isWide n = false) (hread : s.readable [r, rt] = true)
    (htys : (isFloaty (s.rd (s.npc (4 + n.extLen)) r).ty || isFloaty (s.rd (s.npc (4 + n.extLen)) rt).ty) = false)
    (hk : 64 ≤ |(immVal n .disp).toInt|) : shift2I (checkCount 64) g d r n rt 0 u s = .refused .shiftCountRange := by
  obtain ⟨hr, ht⟩ := Bool.or_eq_false_iff.mp htys
  rw [shift2I_eq hread hn hr ht]
  exact shiftEnd_refused (checkCount_of_le hk)

/-! ## Fields out of range, for a descriptor given by its number -/

theorem extract1_range (hm : m = fo.toNat) (hread : s.readable reads = true) (hr : isFloaty (s.rd npc r).ty = false)
    (hrange : 2 ^ 12 ≤ m ∨ m % 64 = 0 ∨ 32 < m / 64 % 64 + m % 64) : extract1 npc d r reads fo s = .refused .bitFieldRange := by
  subst hm
  rw [extract1_eq hread hr]
  exact fieldEnd_refused hrange

theorem extract2_range (hm : m = fo.toNat) (hread : s.readable reads = true)
    (htys : (isFloaty (s.rd npc r).ty || isFloaty (s.rd npc rt).ty) = false)
    (hrange : 2 ^ 12 ≤ m ∨ m % 64 = 0 ∨ 32 < m % 64 ∨ 64 < m / 64 % 64 + m % 64) :
    extract2 npc d r rt reads fo 0 u s = .refused .bitFieldRange := by
  subst hm
  obtain ⟨hr, ht⟩ := Bool.or_eq_false_iff.mp htys
  rw [extract2_eq hread hr ht]
  exact fieldEnd_refused hrange

theorem insert2_range (hm : m = fo.toNat) (hread : s.readable reads = true)
    (htys : (isFloaty (s.rd npc r).ty || isFloaty (s.rd npc rt).ty) = false)
    (hrange : 2 ^ 12 ≤ m ∨ m % 64 = 0 ∨ 32 < m / 64 % 64 + m % 64) :
    insert2 npc d r rt reads fo 0 u s = .refused .bitFieldRange := by
  subst hm
  obtain ⟨hr, ht⟩ := Bool.or_eq_false_iff.mp htys
  rw [insert2_eq hread hr ht]
  exact fieldEnd_refused hrange

/-! ## The modifier of the three-operand choices (46_irregular.md section 1) -/

theorem select3_of_zz {f : TyCode → Word → Word → Word → Word} (h : zz ≠ 0) :
    select3 f d r rs rt zz u s = .refused .operandModifier := by
  rw [select3, checkZZ_of_ne h]
  rfl

theorem select3I_of_zz {f : TyCode → Word → Word → Word → Word} (h : zz ≠ 0) :
    select3I f d r n rt zz u s = .refused .operandModifier := by
  rw [select3I, checkZZ_of_ne h]
  rfl

end

end Sys2Proof.Machine

namespace Sys2Proof.Proofs.BitFields

open Sys2Proof.Machine

/-- Settles O30: each clause is the stop of one shared operation. -/
theorem shiftStops : Obligations.ShiftStops := by
  unfold Obligations.ShiftStops
  refine ⟨List.forall_iff_forall_mem.mp ⟨?lsr, ?asr, ?ror, ?extrct⟩, List.forall_iff_forall_mem.mp ⟨?lsri, ?asri, ?rori⟩,
    List.forall_mem_singleton.mpr ?extrcti, List.forall_iff_forall_mem.mp ⟨?shr, ?asrD, ?rorD, ?extrctD, ?insrt⟩,
    List.forall_iff_forall_mem.mp ⟨?shri, ?asriD, ?roriD⟩, List.forall_iff_forall_mem.mp ⟨?extrctiD, ?insrti⟩,
    List.forall_iff_forall_mem.mp ⟨?lsrCount, ?asrCount⟩, List.forall_iff_forall_mem.mp ⟨?lsriCount, ?asriCount⟩,
    List.forall_iff_forall_mem.mp ⟨?shrCount, ?asrDCount⟩, List.forall_iff_forall_mem.mp ⟨?shriCount, ?asriDCount⟩,
    List.forall_iff_forall_mem.mp ⟨?lsriWide, ?asriWide, ?roriWide⟩,
    List.forall_iff_forall_mem.mp ⟨?shriWide, ?asriDWide, ?roriDWide⟩,
    List.forall_iff_forall_mem.mp ⟨?shrZZ, ?asrDZZ, ?rorDZZ, ?extrctDZZ, ?insrtZZ, ?max3ZZ, ?min3ZZ, ?median3ZZ⟩,
    List.forall_iff_forall_mem.mp ⟨?shriZZ, ?asriDZZ, ?roriDZZ, ?extrctiDZZ, ?insrtiZZ, ?max3iZZ, ?min3iZZ, ?median3IZZ⟩,
    ?extrctRange, ?extrctiRange, ?extrctDRange, ?extrctiDRange, ?insrtRange, ?insrtiRange⟩
  all_goals dsimp only [exec]
  case lsr | asr | ror => exact fun _ _ _ _ => shift1_stops.one
  case extrct => exact fun _ _ _ _ => extract1_stops.one
  case lsri | asri | rori => exact fun _ _ _ _ hn => (shift1I_stops hn).one
  case extrcti => exact fun _ _ _ _ => extract1_stops.one
  case shr | asrD | rorD => exact fun _ _ _ _ _ _ => shift2_stops.two
  case extrctD => exact fun _ _ _ _ _ _ => extract2_stops.two
  case insrt => exact fun _ _ _ _ _ _ => insert2_stops.two
  case shri | asriD | roriD => exact fun _ _ _ _ _ _ hn => (shift2I_stops hn).two
  case extrctiD => exact fun _ _ _ _ _ _ => extract2_stops.two
  case insrti => exact fun _ _ _ _ _ _ => insert2_stops.two
  case lsrCount | asrCount => exact fun _ _ _ _ => shift1_count
  case lsriCount | asriCount => exact fun _ _ _ _ => shift1I_count
  case shrCount | asrDCount => exact fun _ _ _ _ _ _ => shift2_count
  case shriCount | asriDCount => exact fun _ _ _ _ _ _ => shift2I_count
  case lsriWide | asriWide | roriWide => exact fun _ _ v _ => shift1I_wide v
  case shriWide | asriDWide | roriDWide => exact fun _ _ _ v _ _ => shift2I_wide v
  case shrZZ | asrDZZ | rorDZZ => exact fun _ _ _ _ _ _ _ => shift2_of_zz
  case extrctDZZ => exact fun _ _ _ _ _ _ _ => extract2_of_zz
  case insrtZZ => exact fun _ _ _ _ _ _ _ => insert2_of_zz
  case max3ZZ | min3ZZ | median3ZZ => exact fun _ _ _ _ _ _ _ => select3_of_zz
  case shriZZ | asriDZZ | roriDZZ => exact fun _ _ _ _ _ _ _ => shift2I_of_zz
  case extrctiDZZ => exact fun _ _ _ _ _ _ _ => extract2_of_zz
  case insrtiZZ => exact fun _ _ _ _ _ _ _ => insert2_of_zz
  case max3iZZ | min3iZZ | median3IZZ => exact fun _ _ _ _ _ _ _ => select3I_of_zz
  case extrctRange => exact fun _ _ _ _ => extract1_range rfl
  case extrctiRange => exact fun _ _ n _ => extract1_range (immDescriptor_toNat n)
  case extrctDRange => exact fun _ _ _ _ _ _ => extract2_range rfl
  case extrctiDRange => exact fun _ _ n _ _ _ => extract2_range (immDescriptor_toNat n)
  case insrtRange => exact fun _ _ _ _ _ _ => insert2_range rfl
  case insrtiRange => exact fun _ _ n _ _ _ => insert2_range (immDescriptor_toNat n)

end Sys2Proof.Proofs.BitFields
end

section
/-!
The loads (44_loadstore.md sections 1 to 6): the number a load reads and how it is lengthened, the shared operations where
their checks pass, and where they stop.
-/
namespace Sys2Proof.Machine

/-! ## The number in memory (20_memory.md R61) -/

theorem bytesToNat_bytes (m : Memory) (a : Word) (n : Nat) : bytesToNat (m.bytes a n) =
    ((List.range n).map fun k => (m.byte (a + BitVec.ofNat 32 k).toNat).toNat * 256 ^ k).sum := by
  induction n generalizing a with
  | zero => rfl
  | succ n ih =>
    have hfirst : a + BitVec.ofNat 32 0 = a := BitVec.add_zero a
    simp only [Memory.bytes, bytesToNat, ih, List.range_succ_eq_map, List.map_cons, List.map_map, List.sum_cons, hfirst,
      pow_zero, mul_one, Function.comp_def, addr_succ, ← List.sum_map_mul_left, pow_succ]
    congr 3
    funext k
    ring

theorem bytesToNat_lt (bs : List Byte) : bytesToNat bs < 2 ^ (8 * bs.length) := by
  induction bs with
  | nil => exact Nat.one_pos
  | cons b bs ih =>
    have hb : b.toNat < 2 ^ 8 := b.isLt
    rw [bytesToNat, List.length_cons, Nat.mul_succ, Nat.pow_add]
    omega

theorem Memory.bytes_length (m : Memory) (a : Word) (n : Nat) : (m.bytes a n).length = n := by
  induction n generalizing a with
  | zero => rfl
  | succ n ih => rw [Memory.bytes, List.length_cons, ih]

/-! ## The load procedure (44_loadstore.md R231) -/

section
variable {s : State} {npc ea : Word} {d b j rs : RegNum} {n : Imm5} {y : BitVec 2} {ty : TyCode} {ds k : Nat}

theorem load_writes (hds : 0 < ds) (hheld : Held s ea ds) :
    let v := ((List.range ds).map fun k => (s.mem.byte (ea + BitVec.ofNat 32 k).toNat).toNat * 256 ^ k).sum
    ∃ t, load ty ds npc d ea s = .ok t ∧ Writes s t npc d
      (if ty = .s ∧ 2 ^ (8 * ds - 1) ≤ v then BitVec.ofInt 32 ((v : Int) - 2 ^ (8 * ds)) else BitVec.ofNat 32 v) ty .keep := by
  dsimp only
  have hlt := bytesToNat_lt (s.mem.bytes ea ds)
  rw [Memory.bytes_length] at hlt
  have hnum : (BitVec.ofNat (8 * ds) (bytesToNat (s.mem.bytes ea ds))).toNat = bytesToNat (s.mem.bytes ea ds) := by
    rw [BitVec.toNat_ofNat, Nat.mod_eq_of_lt hlt]
  have hvalue := lengthen_eq_ite (by omega) ty (BitVec.ofNat (8 * ds) (bytesToNat (s.mem.bytes ea ds)))
  rw [hnum, bytesToNat_bytes] at hvalue
  rw [← hvalue, ← bytesToNat_bytes]
  exact ⟨_, (load_ok ty ds npc d ea s _).mpr ⟨hheld, rfl⟩, s.writeBack_writes _ _ _ _ _⟩

/-- The check of the bytes of an access names the first the map does not hold (entry 7). -/
theorem checkHeld_absent {m : Memory} (hk : k < ds) (hbefore : ∀ j < k, (m.kind (ea + BitVec.ofNat 32 j).toNat).isSome = true)
    (hat : m.kind (ea + BitVec.ofNat 32 k).toNat = none) :
    checkHeld m ea ds = .error (.fault (.memoryAccess (ea + BitVec.ofNat 32 k))) := by
  induction ds generalizing ea k with
  | zero => exact absurd hk k.not_lt_zero
  | succ ds ih =>
    cases k with
    | zero =>
      rw [BitVec.add_zero] at hat ⊢
      rw [checkHeld, faultIf_of hat, error_bind]
    | succ k =>
      have hfirst : m.kind ea.toNat ≠ none := by
        have := hbefore 0 k.succ_pos
        rwa [BitVec.add_zero, Option.isSome_iff_ne_none] at this
      rw [checkHeld, faultIf_of_not hfirst, ok_bind, ih (k := k) (by omega)
        (fun j hj => by rw [addr_succ]; exact hbefore (j + 1) (by omega)) (by rw [addr_succ]; exact hat), addr_succ]

theorem load_absent (hk : k < ds) (hbefore : ∀ j < k, (s.mem.kind (ea + BitVec.ofNat 32 j).toNat).isSome = true)
    (hat : s.mem.kind (ea + BitVec.ofNat 32 k).toNat = none) :
    outcome (load ty ds npc d ea s) = .fault (.memoryAccess (ea + BitVec.ofNat 32 k)) := by
  rw [load, memRead, checkHeld_absent hk hbefore hat, error_bind, error_bind, outcome_fault]

/-! ## The loads past the checks before memory -/

theorem loadDbj_eq (hread : s.readable [j] = true) :
    loadDbj ty ds d b j s = outcome (load ty ds (s.npc 3) d (eaIndex s (s.npc 3) b j ds) s) :=
  outcome_of_readable hread _

theorem loadDbjs_eq (hread : s.readable [rs, j] = true) : loadDbjs ty ds d b j rs y false s =
    outcome (load ty ds (s.npc 4) d (eaIndexReg s (s.npc 4) b j rs (scaleY y * ds)) s) :=
  outcome_of_readable hread _

theorem loadDbjn_eq (hread : s.readable [j] = true) : loadDbjn ty ds d b j n y false s =
    outcome (load ty ds (s.npc (4 + n.extLen)) d (eaIndexImm s (s.npc (4 + n.extLen)) b j n (scaleY y * ds)) s) :=
  outcome_of_readable hread _

/-! ## Addresses and immediates -/

theorem leaDbjs_writes (hread : s.readable [rs, j] = true) : ∃ t, leaDbjs ds d b j rs y false s = .next t ∧
    Writes s t (s.npc 4) d (eaIndexReg s (s.npc 4) b j rs (scaleY y * ds)) .u .keep :=
  ⟨_, outcome_of_readable hread _, s.writeBack_writes _ _ _ _ _⟩

theorem leaDbjn_writes (hread : s.readable [j] = true) : ∃ t, leaDbjn ds d b j n y false s = .next t ∧
    Writes s t (s.npc (4 + n.extLen)) d (eaIndexImm s (s.npc (4 + n.extLen)) b j n (scaleY y * ds)) .u .keep :=
  ⟨_, outcome_of_readable hread _, s.writeBack_writes _ _ _ _ _⟩

theorem loadImm_writes {w len : Nat} {v : BitVec w} :
    ∃ t, loadImm len d ty v s = .next t ∧ Writes s t (s.npc len) d (lengthen ty v) ty .keep :=
  ⟨_, rfl, s.writeBack_writes _ _ _ _ _⟩

end

end Sys2Proof.Machine

namespace Sys2Proof.Proofs.Loads

open Sys2Proof.Machine

/-- Settles O33: each row is the shared operation with the type its mnemonic names and its data size. -/
theorem loadShort : Obligations.LoadShort := by
  unfold Obligations.LoadShort
  constructor
  · intro p hp d b j s npc ea v hread hheld
    obtain ⟨hds, hexec⟩ : 0 < p.2.2 ∧ exec (p.1 d b j) s = loadDbj p.2.1 p.2.2 d b j s := by
      fin_cases hp <;> exact ⟨by decide, rfl⟩
    obtain ⟨t, ht, hwrites⟩ := load_writes (ty := p.2.1) (npc := npc) (d := d) hds hheld
    exact ⟨t, by rw [hexec, loadDbj_eq hread, outcome_next]; exact ht, hwrites⟩
  · intro p hp d b n s npc ea v hheld
    obtain ⟨hds, hexec⟩ : 0 < p.2.2 ∧ exec (p.1 d b n) s = loadDbn p.2.1 p.2.2 d b n s := by
      fin_cases hp <;> exact ⟨by decide, rfl⟩
    obtain ⟨t, ht, hwrites⟩ := load_writes (ty := p.2.1) (npc := npc) (d := d) hds hheld
    exact ⟨t, by rw [hexec, loadDbn, outcome_next]; exact ht, hwrites⟩

/-- Settles O34: as O33, with the addresses of the 32-bit forms. -/
theorem loadLong : Obligations.LoadLong := by
  unfold Obligations.LoadLong
  constructor
  · intro p hp d b j rs y s npc ea v hread hheld
    obtain ⟨hds, hexec⟩ : 0 < p.2.2 ∧ exec (p.1 d b j rs y false) s = loadDbjs p.2.1 p.2.2 d b j rs y false s := by
      fin_cases hp <;> exact ⟨by decide, rfl⟩
    obtain ⟨t, ht, hwrites⟩ := load_writes (ty := p.2.1) (npc := npc) (d := d) hds hheld
    exact ⟨t, by rw [hexec, loadDbjs_eq hread, outcome_next]; exact ht, hwrites⟩
  · intro p hp d b j n y s npc ea v hread hheld
    obtain ⟨hds, hexec⟩ : 0 < p.2.2 ∧ exec (p.1 d b j n y false) s = loadDbjn p.2.1 p.2.2 d b j n y false s := by
      fin_cases hp <;> exact ⟨by decide, rfl⟩
    obtain ⟨t, ht, hwrites⟩ := load_writes (ty := p.2.1) (npc := npc) (d := d) hds hheld
    exact ⟨t, by rw [hexec, loadDbjn_eq hread, outcome_next]; exact ht, hwrites⟩

/-- Settles O35: the reserved bit, the operand reads and the first absent byte, in this order. -/
theorem loadStops : Obligations.LoadStops := by
  unfold Obligations.LoadStops
  refine ⟨?dbj, ?dbn, ?dbjs, ?dbjn, List.forall_iff_forall_mem.mp ⟨?lea8, ?lea16, ?lea24, ?lea32, ?call⟩,
    List.forall_iff_forall_mem.mp ⟨?lea8Imm, ?lea16Imm, ?lea24Imm, ?lea32Imm, ?callImm⟩, ?callShort⟩
  case dbj =>
    intro p hp d b j s ea
    obtain ⟨ty, hexec⟩ : ∃ ty, exec (p.1 d b j) s = loadDbj ty p.2 d b j s := by
      fin_cases hp <;> exact ⟨_, rfl⟩
    rw [hexec]
    refine ⟨fun h => outcome_of_unreadable h _, fun k hk hread hbefore hat => ?_⟩
    rw [loadDbj_eq hread]
    exact load_absent hk hbefore hat
  case dbn =>
    intro p hp d b n s ea k hk hbefore hat
    obtain ⟨ty, hexec⟩ : ∃ ty, exec (p.1 d b n) s = loadDbn ty p.2 d b n s := by
      fin_cases hp <;> exact ⟨_, rfl⟩
    rw [hexec]
    exact load_absent hk hbefore hat
  case dbjs =>
    intro p hp d b j rs y s ea
    obtain ⟨ty, hexec⟩ : ∃ ty, ∀ u, exec (p.1 d b j rs y u) s = loadDbjs ty p.2 d b j rs y u s := by
      fin_cases hp <;> exact ⟨_, fun _ => rfl⟩
    rw [hexec, hexec]
    refine ⟨rfl, fun h => outcome_of_unreadable h _, fun k hk hread hbefore hat => ?_⟩
    rw [loadDbjs_eq hread]
    exact load_absent hk hbefore hat
  case dbjn =>
    intro p hp d b j n y s ea
    obtain ⟨ty, hexec⟩ : ∃ ty, ∀ u, exec (p.1 d b j n y u) s = loadDbjn ty p.2 d b j n y u s := by
      fin_cases hp <;> exact ⟨_, fun _ => rfl⟩
    rw [hexec, hexec]
    refine ⟨rfl, fun h => outcome_of_unreadable h _, fun k hk hread hbefore hat => ?_⟩
    rw [loadDbjn_eq hread]
    exact load_absent hk hbefore hat
  case lea8 | lea16 | lea24 | lea32 | call => exact fun _ _ _ _ _ _ => ⟨rfl, fun h => outcome_of_unreadable h _⟩
  case lea8Imm | lea16Imm | lea24Imm | lea32Imm | callImm => exact fun _ _ _ _ _ _ => ⟨rfl, fun h => outcome_of_unreadable h _⟩
  case callShort => exact fun _ _ _ _ h => outcome_of_unreadable h _

/-- Settles O37: no check stands before the write. -/
theorem loadImmediate : Obligations.LoadImmediate := by
  unfold Obligations.LoadImmediate
  intro d ty s
  dsimp only [exec]
  refine ⟨fun _ => loadImm_writes, fun _ => loadImm_writes, fun _ => loadImm_writes, fun n => ?word⟩
  obtain ⟨t, ht, hwrites⟩ := loadImm_writes (s := s) (d := d) (ty := ty) (len := 6) (v := n)
  rw [lengthen_word] at hwrites
  exact ⟨t, ht, hwrites⟩

/-- Settles O38: the operand reads are the only check besides the reserved bit. -/
theorem loadAddress : Obligations.LoadAddress := by
  unfold Obligations.LoadAddress
  refine ⟨List.forall_iff_forall_mem.mp ⟨?lea8, ?lea16, ?lea24, ?lea32⟩,
    List.forall_iff_forall_mem.mp ⟨?lea8Imm, ?lea16Imm, ?lea24Imm, ?lea32Imm⟩⟩
  all_goals dsimp only [exec]
  case lea8 | lea16 | lea24 | lea32 => exact fun _ _ _ _ _ _ hread => leaDbjs_writes hread
  case lea8Imm | lea16Imm | lea24Imm | lea32Imm => exact fun _ _ _ _ _ _ hread => leaDbjn_writes hread

end Sys2Proof.Proofs.Loads
end

section
/-!
The stores (44_loadstore.md section 7): the shared operations where their checks pass and where they stop, and the bytes a
load sees after a store.
-/
namespace Sys2Proof.Machine

section
variable {s : State} {npc ea v : Word} {d b j rs : RegNum} {n m : Imm5} {y : BitVec 2} {ds k : Nat} {reads : List RegNum}

/-! ## The store procedure (44_loadstore.md R400) -/

theorem store_of_ram (hds : ds ≤ 4) (hinv : s.Inv) (hram : Ram s ea ds) :
    ∃ t, store ds npc ea v s = .ok t ∧ Stores s t npc ea ds v := by
  have ht : store ds npc ea v s = .ok { s with mem := s.mem.setBytes ea (natToBytes ds v.toNat), pc := npc } := by
    rw [store, memWrite_of_ram s.mem ea ds v hram, ok_bind]
    rfl
  exact ⟨_, ht, store_stores ds npc ea v s _ hds hinv ht⟩

/-- With all the bytes of an access held, the check names the first that is text (entry 7). -/
theorem checkNotText_text {m : Memory} (hk : k < ds) (hbefore : ∀ i < k, m.kind (ea + BitVec.ofNat 32 i).toNat = some .ram)
    (hat : m.kind (ea + BitVec.ofNat 32 k).toNat = some .text) :
    checkNotText m ea ds = .error (.fault (.storeToText (ea + BitVec.ofNat 32 k))) := by
  induction ds generalizing ea k with
  | zero => exact absurd hk k.not_lt_zero
  | succ ds ih =>
    cases k with
    | zero =>
      rw [BitVec.add_zero] at hat ⊢
      rw [checkNotText, faultIf_of hat, error_bind]
    | succ k =>
      have hfirst : m.kind ea.toNat ≠ some .text := by
        have hram := hbefore 0 k.succ_pos
        rw [BitVec.add_zero] at hram
        rw [hram]
        decide
      rw [checkNotText, faultIf_of_not hfirst, ok_bind, ih (k := k) (by omega)
        (fun i hi => by rw [addr_succ]; exact hbefore (i + 1) (by omega)) (by rw [addr_succ]; exact hat), addr_succ]

theorem store_absent (hk : k < ds) (hbefore : ∀ i < k, (s.mem.kind (ea + BitVec.ofNat 32 i).toNat).isSome = true)
    (hat : s.mem.kind (ea + BitVec.ofNat 32 k).toNat = none) :
    store ds npc ea v s = .error (.fault (.memoryAccess (ea + BitVec.ofNat 32 k))) := by
  rw [store, memWrite, checkHeld_absent hk hbefore hat, error_bind, error_bind]

theorem store_text (hk : k < ds) (hheld : Held s ea ds)
    (hbefore : ∀ i < k, s.mem.kind (ea + BitVec.ofNat 32 i).toNat = some .ram)
    (hat : s.mem.kind (ea + BitVec.ofNat 32 k).toNat = some .text) :
    store ds npc ea v s = .error (.fault (.storeToText (ea + BitVec.ofNat 32 k))) := by
  rw [store, memWrite, (checkHeld_ok s.mem ea ds).mpr hheld, ok_bind, checkNotText_text hk hbefore hat, error_bind, error_bind]

/-! ## The stores: operand reads, then the store procedure -/

theorem reads_store_completes (hds : ds ≤ 4) (hinv : s.Inv) (hread : s.readable reads = true) (hram : Ram s ea ds) :
    ∃ t, outcome (s.checkReads reads >>= fun _ => store ds npc ea v s) = .next t ∧ Stores s t npc ea ds v := by
  obtain ⟨t, ht, hstores⟩ := store_of_ram (npc := npc) (v := v) hds hinv hram
  exact ⟨t, by rw [outcome_of_readable hread, ht, outcome_ok], hstores⟩

theorem reads_store_stops (s : State) (reads : List RegNum) (npc ea v : Word) (ds : Nat) :
    let out := outcome (s.checkReads reads >>= fun _ => store ds npc ea v s)
    (s.readable reads = false → out = .fault (.unwrittenRegister 28)) ∧
      (∀ k < ds, s.readable reads = true → (∀ i < k, (s.mem.kind (ea + BitVec.ofNat 32 i).toNat).isSome = true) →
        s.mem.kind (ea + BitVec.ofNat 32 k).toNat = none → out = .fault (.memoryAccess (ea + BitVec.ofNat 32 k))) ∧
      ∀ k < ds, s.readable reads = true → Held s ea ds →
        (∀ i < k, s.mem.kind (ea + BitVec.ofNat 32 i).toNat = some .ram) →
        s.mem.kind (ea + BitVec.ofNat 32 k).toNat = some .text → out = .fault (.storeToText (ea + BitVec.ofNat 32 k)) := by
  refine ⟨fun hread => outcome_of_unreadable hread _, fun k hk hread hbefore hat => ?_, fun k hk hread hheld hbefore hat => ?_⟩
  · rw [outcome_of_readable hread, store_absent hk hbefore hat, outcome_fault]
  · rw [outcome_of_readable hread, store_text hk hheld hbefore hat, outcome_fault]

end

/-! ## Reading back what was stored -/

/-- Bytes that are the digits of a number read as that number, as far as they go. -/
theorem bytesToNat_of_digits {m : Memory} {a : Word} {n v : Nat}
    (h : ∀ k < n, m.byte (a + BitVec.ofNat 32 k).toNat = BitVec.ofNat 8 (v / 256 ^ k)) :
    bytesToNat (m.bytes a n) = v % 256 ^ n := by
  induction n generalizing a v with
  | zero => simp [Memory.bytes, bytesToNat, Nat.mod_one]
  | succ n ih =>
    have hfirst : m.byte a.toNat = BitVec.ofNat 8 v := by simpa using h 0 n.succ_pos
    have hrest : bytesToNat (m.bytes (a + 1) n) = v / 256 % 256 ^ n := ih fun k hk => by
      rw [addr_succ, h (k + 1) (by omega), Nat.div_div_eq_div_mul, Nat.pow_succ']
    have hsplit : v % 256 ^ (n + 1) = v % 2 ^ 8 + 256 * (v / 256 % 256 ^ n) := by
      rw [Nat.pow_succ', Nat.mod_mul, show 2 ^ 8 = 256 from rfl]
    rw [Memory.bytes, bytesToNat, hfirst, hrest, BitVec.toNat_ofNat, hsplit]

/-- A load of at most as many bytes reads the low bytes of the value stored. -/
theorem Stores.bytesToNat {s t : State} {npc ea v : Word} {ds n : Nat} (h : Stores s t npc ea ds v) (hn : n ≤ ds) :
    bytesToNat (t.mem.bytes ea n) = v.toNat % 256 ^ n := by
  refine bytesToNat_of_digits fun k hk => ?_
  rw [h.stored k (by omega)]
  apply BitVec.eq_of_toNat_eq
  rw [BitVec.extractLsb'_toNat, BitVec.toNat_ofNat, Nat.shiftRight_eq_div_pow, Nat.pow_mul]

/-- The base position reads the same in two states that agree on the general registers. -/
theorem rdBase_congr {s t : State} {b : RegNum} (hregs : SameRegsBut (fun _ => False) s t) (hb : b ≠ 31) (npc npc' : Word) :
    t.rdBase npc' b = s.rdBase npc b := by
  by_cases h28 : b = 28
  · rw [h28, State.rdBase_residue, State.rdBase_residue]
  · rw [State.rdBase_of_ne t _ b h28, State.rdBase_of_ne s _ b h28, State.rd_of_ne t _ b hb, State.rd_of_ne s _ b hb,
      hregs b hb not_false]

theorem eaOffset_congr {s t : State} {b : RegNum} (hregs : SameRegsBut (fun _ => False) s t) (hb : b ≠ 31) (npc npc' : Word)
    (n : Imm5) : eaOffset t npc' b n = eaOffset s npc b n := by
  rw [eaOffset, eaOffset, rdBase_congr hregs hb npc npc']

/-- R33: a load without sign of the bytes a store left reads the low bytes of the value stored. -/
theorem Stores.load_unsigned {s t : State} {npc npc' ea v : Word} {ds n : Nat} {d : RegNum} (h : Stores s t npc ea ds v)
    (hheld : Held s ea ds) (hn : n ≤ ds) (hd : d ≠ 31) :
    ∃ u, load .u n npc' d ea t = .ok u ∧ u.reg d = { val := BitVec.ofNat 32 (v.toNat % 256 ^ n), ty := .u } := by
  have hheld' : Held t ea n := fun k hk => by rw [h.kind]; exact hheld k (by omega)
  refine ⟨_, (load_ok .u n npc' d ea t _).mpr ⟨hheld', rfl⟩, ?_⟩
  rw [(t.writeBack_writes npc' d _ .u .keep).dest hd fun _ => rfl, h.bytesToNat hn, lengthen_of_ne_signed (by decide)]
  congr 1
  apply BitVec.eq_of_toNat_eq
  rw [BitVec.toNat_setWidth, BitVec.toNat_ofNat, BitVec.toNat_ofNat, Nat.pow_mul, Nat.mod_mod_of_dvd _ (dvd_refl _)]

end Sys2Proof.Machine

namespace Sys2Proof.Proofs.Stores

open Sys2Proof.Machine

/-- Settles O39: each row is the shared operation with its data size. -/
theorem storeShort : Obligations.StoreShort := by
  unfold Obligations.StoreShort
  constructor
  · intro p hp d b j s npc ea hinv hread hram
    obtain ⟨hds, hexec⟩ : p.2 ≤ 4 ∧ exec (p.1 d b j) s = storeDbj p.2 d b j s := by fin_cases hp <;> exact ⟨by decide, rfl⟩
    rw [hexec]
    exact reads_store_completes hds hinv hread hram
  · intro p hp d b n s npc ea hinv hread hram
    obtain ⟨hds, hexec⟩ : p.2 ≤ 4 ∧ exec (p.1 d b n) s = storeDbn p.2 d b n s := by fin_cases hp <;> exact ⟨by decide, rfl⟩
    rw [hexec]
    exact reads_store_completes hds hinv hread hram

/-- Settles O40: as O39, with the addresses of the 32-bit forms. -/
theorem storeLong : Obligations.StoreLong := by
  unfold Obligations.StoreLong
  constructor
  · intro p hp d b j rs y s npc ea hinv hread hram
    obtain ⟨hds, hexec⟩ : p.2 ≤ 4 ∧ exec (p.1 d b j rs y) s = storeDbjs p.2 d b j rs y s := by
      fin_cases hp <;> exact ⟨by decide, rfl⟩
    rw [hexec]
    exact reads_store_completes hds hinv hread hram
  · intro p hp d b j n y s npc ea hinv hread hram
    obtain ⟨hds, hexec⟩ : p.2 ≤ 4 ∧ exec (p.1 d b j n y) s = storeDbjn p.2 d b j n y s := by
      fin_cases hp <;> exact ⟨by decide, rfl⟩
    rw [hexec]
    exact reads_store_completes hds hinv hread hram

/-- Settles O41: as O40, with the immediate in the place of the register stored. -/
theorem storeImmediate : Obligations.StoreImmediate := by
  unfold Obligations.StoreImmediate
  constructor
  · intro p hp m b j rs y s npc ea hinv hread hram
    obtain ⟨hds, hexec⟩ : p.2 ≤ 4 ∧ exec (p.1 m b j rs y) s = storeMbjs p.2 m b j rs y s := by
      fin_cases hp <;> exact ⟨by decide, rfl⟩
    rw [hexec]
    exact reads_store_completes hds hinv hread hram
  · intro p hp m b j n y s npc ea hinv hread hram
    obtain ⟨hds, hexec⟩ : p.2 ≤ 4 ∧ exec (p.1 m b j n y) s = storeMbjn p.2 m b j n y s := by
      fin_cases hp <;> exact ⟨by decide, rfl⟩
    rw [hexec]
    exact reads_store_completes hds hinv hread hram

/-- Settles O42: every form reads its operands and ends in the store procedure. -/
theorem storeStops : Obligations.StoreStops := by
  unfold Obligations.StoreStops
  refine ⟨?dbj, ?dbn, ?dbjs, ?dbjn, ?mbjs, ?mbjn⟩
  case dbj =>
    intro p hp d b j s
    have hexec : exec (p.1 d b j) s = storeDbj p.2 d b j s := by fin_cases hp <;> rfl
    rw [hexec]
    exact reads_store_stops ..
  case dbn =>
    intro p hp d b n s
    have hexec : exec (p.1 d b n) s = storeDbn p.2 d b n s := by fin_cases hp <;> rfl
    rw [hexec]
    exact reads_store_stops ..
  case dbjs =>
    intro p hp d b j rs y s
    have hexec : exec (p.1 d b j rs y) s = storeDbjs p.2 d b j rs y s := by fin_cases hp <;> rfl
    rw [hexec]
    exact reads_store_stops ..
  case dbjn =>
    intro p hp d b j n y s
    have hexec : exec (p.1 d b j n y) s = storeDbjn p.2 d b j n y s := by fin_cases hp <;> rfl
    rw [hexec]
    exact reads_store_stops ..
  case mbjs =>
    intro p hp m b j rs y s
    have hexec : exec (p.1 m b j rs y) s = storeMbjs p.2 m b j rs y s := by fin_cases hp <;> rfl
    rw [hexec]
    exact reads_store_stops ..
  case mbjn =>
    intro p hp m b j n y s
    have hexec : exec (p.1 m b j n y) s = storeMbjn p.2 m b j n y s := by fin_cases hp <;> rfl
    rw [hexec]
    exact reads_store_stops ..

/-- Settles O43: the address is the same in the state the store leaves, and the bytes there are those of the value. -/
theorem loadAfterStore : Obligations.LoadAfterStore := by
  unfold Obligations.LoadAfterStore
  intro d d' b n s t h31 hb hinv h
  have hnext : storeDbn 4 d b n s = .next t := h
  simp only [storeDbn, outcome_next, bind_ok] at hnext
  obtain ⟨_, _, hstore⟩ := hnext
  have hstores := store_stores 4 _ _ _ s t (Nat.le_refl 4) hinv hstore
  have hheld := (store_ok 4 _ _ _ s t hstore).1
  have hea := eaOffset_congr hstores.regs hb (s.npc (3 + n.extLen)) (t.npc (3 + n.extLen)) n
  refine ⟨?word, ?byte⟩
  case word =>
    obtain ⟨u, hu, hreg⟩ := hstores.load_unsigned (npc' := t.npc (3 + n.extLen)) hheld (Nat.le_refl 4) h31
    refine ⟨u, ?_, ?_⟩
    · show loadDbn .u 4 d' b n t = .next u
      rw [loadDbn, outcome_next, hea]
      exact hu
    · rw [hreg, Nat.mod_eq_of_lt (show _ < 256 ^ 4 from BitVec.isLt _), BitVec.ofNat_toNat, BitVec.setWidth_eq]
  case byte =>
    obtain ⟨u, hu, hreg⟩ := hstores.load_unsigned (npc' := t.npc (3 + n.extLen)) hheld (n := 1) (by decide) h31
    refine ⟨u, ?_, ?_⟩
    · show loadDbn .u 1 d' b n t = .next u
      rw [loadDbn, outcome_next, hea]
      exact hu
    · rw [hreg]
      congr 1
      apply BitVec.eq_of_toNat_eq
      have hmask (x : Nat) : x &&& 0xFF = x % 256 := Nat.and_two_pow_sub_one_eq_mod x 8
      rw [BitVec.toNat_ofNat, BitVec.toNat_and, show (0xFF : Word).toNat = 0xFF from rfl, hmask]
      omega

end Sys2Proof.Proofs.Stores
end

section
/-!
The control family (45_control.md sections 2 to 4): the link and the target of a call, the conditions read by type and
their reverses, the bit branches for both values of `bbs_roles`, and the next aligned address.
-/
namespace Sys2Proof.Machine

/-! ## Calls (R270, R272) -/

/-- A link is a write of a register other than R31, or no write, and a jump. -/
theorem callTo_calls (s : State) (npc : Word) (d : RegNum) (ea : Word) : Calls s (callTo npc d ea s) ea d npc := by
  by_cases h31 : d = 31
  · subst h31
    have hlost : s.residueLost = (s.residueLost && (31 : RegNum) != 28) := (Bool.and_true _).symm
    rw [callTo, if_pos rfl]
    exact ⟨rfl, hlost, fun h => absurd rfl h, fun i hi _ => s.reg_mk _ _ _ _ _ i hi,
      ⟨fun _ => rfl, fun _ => rfl⟩, rfl, rfl⟩
  · rw [callTo, if_neg h31]
    constructor
    case pc => rfl
    case lost => exact s.setReg_residueLost d _
    case dest => exact fun _ => ((s.setReg d _).reg_mk _ _ _ _ _ d h31).trans (s.reg_setReg_same d _ h31)
    case regs => exact fun i hi hne => ((s.setReg d _).reg_mk _ _ _ _ _ i hi).trans (s.reg_setReg_ne d i _ hi hne)
    case memory => exact ⟨fun _ => by rw [State.setReg_mem], fun _ => by rw [State.setReg_mem]⟩
    case events => exact s.setReg_events d _
    case draws => exact s.setReg_draws d _

/-- CALLR links in R0. -/
theorem execCallr_calls (n : Disp) (s : State) :
    ∃ t, execCallr n s = .next t ∧ Calls s t (s.npc n.length + dispVal n) 0 (s.npc n.length) :=
  ⟨_, rfl, callTo_calls s (s.npc n.length) 0 _⟩

/-- Without a factor the index counts once. -/
theorem eaIndex_one (s : State) (npc : Word) (b j : RegNum) : eaIndex s npc b j 1 = s.rdBase npc b + s.rdIndex npc j := by
  rw [eaIndex, BitVec.mul_one]

/-! ## The conditions of the branches (R268) -/

/-- `c` holds of a word of type U just when `pu` does, and of one of type S just when `ps` does. -/
def Cond.Means (c : Cond) (pu ps : Word → Prop) : Prop := ∀ v, (c.holds v .u = true ↔ pu v) ∧ (c.holds v .s = true ↔ ps v)

theorem toInt_neg_iff (v : Word) : v.toInt < 0 ↔ v.msb = true := by rw [BitVec.msb_eq_toInt, decide_eq_true_iff]

theorem toInt_nonneg_iff (v : Word) : 0 ≤ v.toInt ↔ v.msb = false := by
  rw [← Int.not_lt, toInt_neg_iff, Bool.not_eq_true]

theorem toNat_pos_iff (v : Word) : (0 : Int) < v.toNat ↔ v ≠ 0 := by
  rw [← BitVec.toNat_ne_iff_ne, Nat.cast_pos, Nat.pos_iff_ne_zero]; rfl

theorem Cond.z_means : Cond.z.Means (fun v => v = 0) fun v => v = 0 := fun _ => ⟨beq_iff_eq, beq_iff_eq⟩

theorem Cond.nz_means : Cond.nz.Means (fun v => v ≠ 0) fun v => v ≠ 0 := fun _ => ⟨bne_iff_ne, bne_iff_ne⟩

theorem Cond.gz_means : Cond.gz.Means (fun v => v ≠ 0) fun v => 0 < v.toInt := fun v =>
  ⟨decide_eq_true_iff.trans (toNat_pos_iff v), decide_eq_true_iff⟩

theorem Cond.lez_means : Cond.lez.Means (fun v => v = 0) fun v => v.toInt ≤ 0 := fun v =>
  ⟨by rw [Cond.holds, decide_eq_true_iff, ← Int.not_lt, valOf_of_ne_signed (by decide), toNat_pos_iff, not_not], decide_eq_true_iff⟩

theorem Cond.gez_means : Cond.gez.Means (fun _ => True) fun v => v.msb = false := fun v =>
  ⟨decide_eq_true_iff.trans (iff_true_intro (Int.natCast_nonneg v.toNat)), decide_eq_true_iff.trans (toInt_nonneg_iff v)⟩

theorem Cond.lz_means : Cond.lz.Means (fun _ => False) fun v => v.msb = true := fun v =>
  ⟨decide_eq_true_iff.trans (iff_false_intro (Int.not_lt.mpr (Int.natCast_nonneg v.toNat))),
    decide_eq_true_iff.trans (toInt_neg_iff v)⟩

theorem Cond.ev_means : Cond.ev.Means (fun v => v.getLsbD 0 = false) fun v => v.getLsbD 0 = false := fun _ =>
  ⟨Bool.not_eq_true' _ ▸ Iff.rfl, Bool.not_eq_true' _ ▸ Iff.rfl⟩

theorem Cond.od_means : Cond.od.Means (fun v => v.getLsbD 0 = true) fun v => v.getLsbD 0 = true := fun _ => ⟨Iff.rfl, Iff.rfl⟩

/-- The condition that holds where `c` does not. -/
def Cond.reverse : Cond → Cond
  | .z => .nz
  | .nz => .z
  | .gz => .lez
  | .lez => .gz
  | .gez => .lz
  | .lz => .gez
  | .ev => .od
  | .od => .ev

theorem Cond.holds_reverse (c : Cond) (v : Word) (ty : TyCode) : c.reverse.holds v ty = !c.holds v ty := by
  cases c
  case z => rfl
  case nz => exact (Bool.not_not _).symm
  case gz | gez | lez | lz => simp only [Cond.reverse, Cond.holds, ← decide_not, Int.not_lt, Int.not_le]
  case ev => exact (Bool.not_not _).symm
  case od => rfl

/-! ## The branches -/

section
variable {c : Cond} {npc disp : Word} {d : RegNum} {s t : State} {pu ps : Word → Prop}

theorem condBranch_jumps (hread : s.readable [d] = true) (hty : isFloaty (s.rd npc d).ty = false) :
    ∃ t, condBranch c npc d disp s = .next t ∧
      Jumps s t (if c.holds (s.rd npc d).val (s.rd npc d).ty then npc + disp else npc) :=
  ⟨_, outcome_past_floaty hread (by simpa using hty) _, s.jumps_pc _⟩

theorem condBranch_stops : FloatyStops (condBranch c npc d disp s) s [d] [(s.rd npc d).ty] := floatyStops ..

/-- A conditional branch that completes passed its checks. -/
theorem condBranch_next (h : condBranch c npc d disp s = .next t) :
    s.readable [d] = true ∧ isFloaty (s.rd npc d).ty = false := by
  simp only [condBranch, outcome_next, bind_ok, checkReads_ok, refuseFloaty_ok, exists_unit] at h
  obtain ⟨hread, hty, -⟩ := h
  exact ⟨hread, hty _ (List.mem_singleton_self _)⟩

theorem condBranch_of_means (hc : c.Means pu ps) (hread : s.readable [d] = true) (hty : isFloaty (s.rd npc d).ty = false) :
    let x := s.rd npc d
    ∃ t, condBranch c npc d disp s = .next t ∧
      ((x.ty = .s ∧ ps x.val) ∨ (x.ty = .u ∧ pu x.val) → Jumps s t (npc + disp)) ∧
      (¬ ((x.ty = .s ∧ ps x.val) ∨ (x.ty = .u ∧ pu x.val)) → Jumps s t npc) := by
  dsimp only
  obtain ⟨t, ht, hjumps⟩ := condBranch_jumps (c := c) (disp := disp) hread hty
  have htaken : c.holds (s.rd npc d).val (s.rd npc d).ty = true ↔
      ((s.rd npc d).ty = .s ∧ ps (s.rd npc d).val) ∨ ((s.rd npc d).ty = .u ∧ pu (s.rd npc d).val) := by
    obtain ⟨hu, hs⟩ := hc (s.rd npc d).val
    generalize (s.rd npc d).ty = ty at hty ⊢
    cases ty
    case u => simpa using hu
    case s => simpa using hs
    all_goals exact absurd hty (by decide)
  refine ⟨t, ht, fun h => ?taken, fun h => ?next⟩
  case taken => rwa [if_pos (htaken.mpr h)] at hjumps
  case next => rwa [if_neg fun hholds => h (htaken.mp hholds)] at hjumps

/-- A branch and the branch of the reverse condition: they stop together, and where they complete one of them is taken. -/
theorem condBranch_complement (c : Cond) (npc disp : Word) (d : RegNum) (s : State) :
    (s.readable [d] = false → condBranch c npc d disp s = .fault (.unwrittenRegister 28) ∧
      condBranch c.reverse npc d disp s = .fault (.unwrittenRegister 28)) ∧
    (s.readable [d] = true → isFloaty (s.rd npc d).ty = true →
      condBranch c npc d disp s = .refused .floatOrPosit ∧ condBranch c.reverse npc d disp s = .refused .floatOrPosit) ∧
    ∀ t, condBranch c npc d disp s = .next t → ∃ v, condBranch c.reverse npc d disp s = .next v ∧
      ((t.pc = npc + disp ∧ v.pc = npc) ∨ (t.pc = npc ∧ v.pc = npc + disp)) := by
  refine ⟨fun h => ⟨condBranch_stops.unwritten h, condBranch_stops.unwritten h⟩,
    fun h hf => ⟨condBranch_stops.floaty h (by simpa using hf), condBranch_stops.floaty h (by simpa using hf)⟩,
    fun t ht => ?_⟩
  obtain ⟨hread, hty⟩ := condBranch_next ht
  obtain ⟨t', ht', hjumps⟩ := condBranch_jumps (c := c) (disp := disp) hread hty
  obtain rfl : t = t' := by simpa [ht] using ht'
  obtain ⟨v, hv, hjumpsRev⟩ := condBranch_jumps (c := c.reverse) (disp := disp) hread hty
  refine ⟨v, hv, ?_⟩
  rw [hjumps.pc, hjumpsRev.pc, Cond.holds_reverse]
  cases c.holds (s.rd npc d).val (s.rd npc d).ty
  case true => exact .inl ⟨rfl, rfl⟩
  case false => exact .inr ⟨rfl, rfl⟩

/-- R266: BBS and BBC read the register their fields name and no other. -/
theorem bitBranch_jumps {i : Bool} {r : RegNum} {n : Imm5} (hread : s.readable [(bbsFields d r).1] = true) :
    let npc := s.npc (3 + n.extLen)
    ∃ t, bitBranch i d r n s = .next t ∧ Jumps s t
      (if (s.rd npc (bbsFields d r).1).val.getLsbD (bbsFields d r).2.val = i then npc + immVal n .disp else npc) := by
  refine ⟨_, outcome_of_readable hread _, ?_⟩
  simp only [← beq_iff_eq (b := i)]
  exact s.jumps_pc _

end

/-! ## The next aligned address (R262, R263) -/

/-- Clearing the low bits rounds down to a multiple. -/
theorem toNat_clear_low (x : Word) (j : Nat) :
    (x &&& ~~~BitVec.ofNat 32 (2 ^ j - 1)).toNat = x.toNat / 2 ^ j * 2 ^ j := by
  have hshift : x &&& ~~~BitVec.ofNat 32 (2 ^ j - 1) = x >>> j <<< j := by
    apply BitVec.eq_of_getLsbD_eq
    intro i hi
    rw [BitVec.getLsbD_and, BitVec.getLsbD_not, BitVec.getLsbD_ofNat, Nat.testBit_two_pow_sub_one, BitVec.getLsbD_shiftLeft,
      BitVec.getLsbD_ushiftRight]
    by_cases hlow : i < j
    · simp [hlow]
    · simp [hlow, hi, Nat.add_sub_of_le (Nat.not_lt.mp hlow)]
  have hlt : x.toNat / 2 ^ j * 2 ^ j < 2 ^ 32 := (Nat.div_mul_le_self _ _).trans_lt x.isLt
  rw [hshift, BitVec.toNat_shiftLeft, BitVec.toNat_ushiftRight, Nat.shiftRight_eq_div_pow, Nat.shiftLeft_eq,
    Nat.mod_eq_of_lt hlt]

theorem alignTo_jumps {s : State} {j : Nat} (h : s.pc.toNat + 2 ^ j < 2 ^ 32) :
    ∃ t, alignTo (2 ^ j) s = .next t ∧
      Jumps s t ((s.pc + BitVec.ofNat 32 (2 ^ j)) &&& ~~~BitVec.ofNat 32 (2 ^ j - 1)) := by
  have hmultiple : (s.pc.toNat + 2 ^ j) / 2 ^ j = s.pc.toNat / 2 ^ j + 1 := Nat.add_div_right _ (Nat.two_pow_pos j)
  have hle : (s.pc.toNat / 2 ^ j + 1) * 2 ^ j ≤ s.pc.toNat + 2 ^ j := hmultiple ▸ Nat.div_mul_le_self _ _
  have hsum : (s.pc + BitVec.ofNat 32 (2 ^ j)).toNat = s.pc.toNat + 2 ^ j := by
    rw [BitVec.toNat_add, BitVec.toNat_ofNat, Nat.add_mod_mod, Nat.mod_eq_of_lt h]
  have htarget : BitVec.ofNat 32 ((s.pc.toNat / 2 ^ j + 1) * 2 ^ j) =
      (s.pc + BitVec.ofNat 32 (2 ^ j)) &&& ~~~BitVec.ofNat 32 (2 ^ j - 1) := by
    apply BitVec.eq_of_toNat_eq
    rw [toNat_clear_low, hsum, hmultiple, BitVec.toNat_ofNat, Nat.mod_eq_of_lt (hle.trans_lt h)]
  rw [← htarget]
  refine ⟨_, ?_, s.jumps_pc _⟩
  rw [alignTo, faultIf_of_not (Nat.not_le.mpr (hle.trans_lt h)), ok_bind]
  rfl

theorem alignTo_wraps {s : State} {k : Nat} (h : 2 ^ 32 ≤ (s.pc.toNat / k + 1) * k) : alignTo k s = .fault .fetchWrap := by
  rw [alignTo, faultIf_of h, error_bind, outcome_fault]

end Sys2Proof.Machine

namespace Sys2Proof.Proofs.Control

open Sys2Proof.Machine

/-- Settles O45: every form is a link and a jump to an address computed before the link. -/
theorem call : Obligations.Call := by
  unfold Obligations.Call
  refine ⟨fun n => execCallr_calls (.d16 n), fun n => execCallr_calls (.d24 n), fun d b j s hread => ?dbj,
    fun d b n s => ⟨_, rfl, callTo_calls s _ d _⟩, fun d b j rs y s hread => ⟨_, outcome_of_readable hread _, callTo_calls s _ d _⟩,
    fun d b j n y s hread => ⟨_, outcome_of_readable hread _, callTo_calls s _ d _⟩⟩
  case dbj =>
    rw [← eaIndex_one]
    exact ⟨_, outcome_of_readable hread _, callTo_calls s _ d _⟩

/-- Settles O46: each row is the shared branch with the condition of its mnemonic, read by both types. -/
theorem conditionalBranch : Obligations.ConditionalBranch := by
  unfold Obligations.ConditionalBranch
  constructor
  case left =>
    intro p hp d n s x hread hty
    obtain ⟨c, hexec, hmeans⟩ : ∃ c, exec (p.1 d n) s = condBranch c (s.npc 3) d (n.signExtend 32) s ∧ c.Means p.2.1 p.2.2 := by
      fin_cases hp
      exacts [⟨_, rfl, Cond.z_means⟩, ⟨_, rfl, Cond.gz_means⟩, ⟨_, rfl, Cond.gez_means⟩, ⟨_, rfl, Cond.ev_means⟩,
        ⟨_, rfl, Cond.nz_means⟩, ⟨_, rfl, Cond.lez_means⟩, ⟨_, rfl, Cond.lz_means⟩, ⟨_, rfl, Cond.od_means⟩]
    rw [hexec]
    exact condBranch_of_means hmeans hread hty
  case right =>
    intro p hp d n s x hread hty
    obtain ⟨c, hexec, hmeans⟩ : ∃ c, exec (p.1 d n) s = condBranch c (s.npc 4) d (n.signExtend 32) s ∧ c.Means p.2.1 p.2.2 := by
      fin_cases hp
      exacts [⟨_, rfl, Cond.z_means⟩, ⟨_, rfl, Cond.gz_means⟩, ⟨_, rfl, Cond.gez_means⟩, ⟨_, rfl, Cond.ev_means⟩,
        ⟨_, rfl, Cond.nz_means⟩, ⟨_, rfl, Cond.lez_means⟩, ⟨_, rfl, Cond.lz_means⟩, ⟨_, rfl, Cond.od_means⟩]
    rw [hexec]
    exact condBranch_of_means hmeans hread hty

/-- Settles O47: the second of each pair tests the reverse of the condition of the first. -/
theorem branchComplement : Obligations.BranchComplement := by
  unfold Obligations.BranchComplement
  refine ⟨List.forall_iff_forall_mem.mp ⟨?z, ?gz, ?gez, ?ev⟩, List.forall_iff_forall_mem.mp ⟨?zLong, ?gzLong, ?gezLong, ?evLong⟩⟩
  case z => exact fun d n s => condBranch_complement .z (s.npc 3) _ d s
  case gz => exact fun d n s => condBranch_complement .gz (s.npc 3) _ d s
  case gez => exact fun d n s => condBranch_complement .gez (s.npc 3) _ d s
  case ev => exact fun d n s => condBranch_complement .ev (s.npc 3) _ d s
  case zLong => exact fun d n s => condBranch_complement .z (s.npc 4) _ d s
  case gzLong => exact fun d n s => condBranch_complement .gz (s.npc 4) _ d s
  case gezLong => exact fun d n s => condBranch_complement .gez (s.npc 4) _ d s
  case evLong => exact fun d n s => condBranch_complement .ev (s.npc 4) _ d s

/-- Settles O48, for both values of `bbs_roles`. -/
theorem bitBranch : Obligations.BitBranch := by
  unfold Obligations.BitBranch
  intro p hp d r n s
  have hexec : exec (p.1 d r n) s = Machine.bitBranch p.2 d r n s := by fin_cases hp <;> rfl
  have hstops : s.readable [(bbsFields d r).1] = false → Machine.bitBranch p.2 d r n s = .fault (.unwrittenRegister 28) :=
    fun h => outcome_of_unreadable h _
  have hjumps := bitBranch_jumps (s := s) (d := d) (r := r) (n := n) (i := p.2)
  rw [hexec]
  unfold bbsFields at hjumps hstops
  cases hroles : Config.bbsRoles
  all_goals
    rw [hroles] at hjumps hstops
    exact ⟨hjumps, hstops⟩

/-- Settles O49: clearing the low bits of the address one step on is the next multiple. -/
theorem alignPc : Obligations.AlignPc := by
  unfold Obligations.AlignPc
  intro s
  exact ⟨fun h => alignTo_jumps (j := 1) (by omega), fun h => alignTo_wraps (by omega),
    fun h => alignTo_jumps (j := 2) (by omega), fun h => alignTo_wraps (by omega)⟩

end Sys2Proof.Proofs.Control
end

section
/-!
Maxima, minima and the median (46_irregular.md section 1): which operand the two-operand choices give, the three-operand
ones as sorting networks of them, and the shared operations on operands that pass their checks.
-/
namespace Sys2Proof.Machine

/-! ## The greater and the lesser of two (R291, R293) -/

/-- Operands with one value are one operand. -/
theorem valOf_injective (ty : TyCode) : Function.Injective (valOf ty) := Function.LeftInverse.injective (ofInt_valOf ty)

theorem maxBy_of_le {ty : TyCode} {a b : Word} (h : valOf ty a ≤ valOf ty b) : maxBy ty a b = b := by
  by_cases hge : valOf ty b ≤ valOf ty a
  · rw [maxBy, if_pos hge, valOf_injective ty (le_antisymm h hge)]
  · rw [maxBy, if_neg hge]

theorem maxBy_of_ge {ty : TyCode} {a b : Word} (h : valOf ty b ≤ valOf ty a) : maxBy ty a b = a := if_pos h

theorem minBy_of_le {ty : TyCode} {a b : Word} (h : valOf ty a ≤ valOf ty b) : minBy ty a b = a := if_pos h

theorem minBy_of_ge {ty : TyCode} {a b : Word} (h : valOf ty b ≤ valOf ty a) : minBy ty a b = b := by
  by_cases hle : valOf ty a ≤ valOf ty b
  · rw [minBy, if_pos hle, valOf_injective ty (le_antisymm hle h)]
  · rw [minBy, if_neg hle]

/-- One comparator of a sorting network: the two operands, the lesser first. -/
theorem minBy_maxBy_perm (ty : TyCode) (a b : Word) : [minBy ty a b, maxBy ty a b].Perm [a, b] := by
  rcases le_total (valOf ty a) (valOf ty b) with h | h
  · rw [minBy_of_le h, maxBy_of_le h]
  · rw [minBy_of_ge h, maxBy_of_ge h]
    exact .swap a b []

theorem valOf_maxBy (ty : TyCode) (a b : Word) : valOf ty (maxBy ty a b) = max (valOf ty a) (valOf ty b) := by
  rcases le_total (valOf ty a) (valOf ty b) with h | h
  · rw [maxBy_of_le h, max_eq_right h]
  · rw [maxBy_of_ge h, max_eq_left h]

theorem valOf_minBy (ty : TyCode) (a b : Word) : valOf ty (minBy ty a b) = min (valOf ty a) (valOf ty b) := by
  rcases le_total (valOf ty a) (valOf ty b) with h | h
  · rw [minBy_of_le h, min_eq_left h]
  · rw [minBy_of_ge h, min_eq_right h]

/-- `f` gives one of its operands, to which both stand in the order `le`. -/
def Chooses (f : TyCode → Word → Word → Word) (le : Int → Int → Prop) : Prop :=
  ∀ ty a b, (f ty a b = a ∨ f ty a b = b) ∧ le (valOf ty a) (valOf ty (f ty a b)) ∧ le (valOf ty b) (valOf ty (f ty a b))

theorem maxBy_chooses : Chooses maxBy fun x y => x ≤ y := fun ty a b =>
  ⟨ite_eq_or_eq _ a b, valOf_maxBy ty a b ▸ le_max_left _ _, valOf_maxBy ty a b ▸ le_max_right _ _⟩

theorem minBy_chooses : Chooses minBy fun x y => y ≤ x := fun ty a b =>
  ⟨ite_eq_or_eq _ a b, valOf_minBy ty a b ▸ min_le_left _ _, valOf_minBy ty a b ▸ min_le_right _ _⟩

/-! ## Three operands in order (R295, R297, R299) -/

/-- With two more words what `f` gives can be put, at the place `place` says, in an ordered list of its operands. -/
def Places (f : TyCode → Word → Word → Word → Word) (place : Word → Word → Word → List Word) : Prop :=
  ∀ ty a b c, ∃ x y, (place x y (f ty a b c)).Perm [a, b, c] ∧
    (place x y (f ty a b c)).Pairwise fun v w => valOf ty v ≤ valOf ty w

theorem pairwise_three {ty : TyCode} {a b c : Word} (hab : valOf ty a ≤ valOf ty b) (hbc : valOf ty b ≤ valOf ty c) :
    [a, b, c].Pairwise fun v w => valOf ty v ≤ valOf ty w := by
  simpa using ⟨⟨hab, hab.trans hbc⟩, hbc⟩

/-- The network of comparators that brings the greatest to the end first. -/
theorem upward_network (ty : TyCode) (a b c : Word) :
    let lo := minBy ty a b
    let hi := maxBy ty a b
    let mid := minBy ty hi c
    [minBy ty lo mid, maxBy ty lo mid, maxBy ty hi c].Perm [a, b, c] ∧
      [minBy ty lo mid, maxBy ty lo mid, maxBy ty hi c].Pairwise fun v w => valOf ty v ≤ valOf ty w := by
  intro lo hi mid
  constructor
  case left =>
    calc [minBy ty lo mid, maxBy ty lo mid, maxBy ty hi c]
      List.Perm _ [lo, mid, maxBy ty hi c] := (minBy_maxBy_perm ty lo mid).append_right [_]
      List.Perm _ [lo, hi, c] := (minBy_maxBy_perm ty hi c).cons lo
      List.Perm _ [a, b, c] := (minBy_maxBy_perm ty a b).append_right [c]
  case right =>
    apply pairwise_three
    all_goals
      simp only [lo, hi, mid, valOf_minBy, valOf_maxBy]
      omega

/-- The network that brings the least to the front first. -/
theorem downward_network (ty : TyCode) (a b c : Word) :
    let lo := minBy ty a b
    let hi := maxBy ty a b
    let mid := maxBy ty lo c
    [minBy ty lo c, minBy ty hi mid, maxBy ty hi mid].Perm [a, b, c] ∧
      [minBy ty lo c, minBy ty hi mid, maxBy ty hi mid].Pairwise fun v w => valOf ty v ≤ valOf ty w := by
  intro lo hi mid
  constructor
  case left =>
    calc [minBy ty lo c, minBy ty hi mid, maxBy ty hi mid]
      List.Perm _ [minBy ty lo c, hi, mid] := (minBy_maxBy_perm ty hi mid).cons _
      List.Perm _ [hi, minBy ty lo c, mid] := .swap _ _ _
      List.Perm _ [hi, lo, c] := (minBy_maxBy_perm ty lo c).cons hi
      List.Perm _ [lo, hi, c] := .swap _ _ _
      List.Perm _ [a, b, c] := (minBy_maxBy_perm ty a b).append_right [c]
  case right =>
    apply pairwise_three
    all_goals
      simp only [lo, hi, mid, valOf_minBy, valOf_maxBy]
      omega

theorem max3_places : Places (fun ty a b c => maxBy ty (maxBy ty a b) c) fun x y v => [x, y, v] :=
  fun ty a b c => ⟨_, _, upward_network ty a b c⟩

theorem min3_places : Places (fun ty a b c => minBy ty (minBy ty a b) c) fun x y v => [v, x, y] :=
  fun ty a b c => ⟨_, _, downward_network ty a b c⟩

theorem medianBy_places : Places medianBy fun x y v => [x, v, y] := fun ty a b c => ⟨_, _, upward_network ty a b c⟩

/-! ## The shared operations -/

section
variable {s : State} {d r rs rt : RegNum} {n : Imm5} {u : Bool} {ty : TyCode}

theorem select2_writes (f : TyCode → Word → Word → Word) (hty : isFloaty ty = false) (hread : s.readable [r, rs] = true)
    (hr : (s.rd (s.npc 3) r).ty = ty) (hs : (s.rd (s.npc 3) rs).ty = ty) :
    ∃ t, select2 f d r rs s = .next t ∧
      Writes s t (s.npc 3) d (f ty (s.rd (s.npc 3) r).val (s.rd (s.npc 3) rs).val) ty .keep := by
  refine ⟨_, ?_, s.writeBack_writes _ _ _ _ _⟩
  rw [select2, checkReads_of_readable hread, hr, ok_bind, typeCheck_of_typed hty (by simp [hs]), ok_bind]
  rfl

theorem select2I_writes (f : TyCode → Word → Word → Word) (hty : isFloaty ty = false) (hread : s.readable [r] = true)
    (hr : (s.rd (s.npc (3 + n.extLen)) r).ty = ty) :
    ∃ t, select2I f d r n s = .next t ∧
      Writes s t (s.npc (3 + n.extLen)) d (f ty (s.rd (s.npc (3 + n.extLen)) r).val (immVal n (ctxOf ty))) ty .keep := by
  refine ⟨_, ?_, s.writeBack_writes _ _ _ _ _⟩
  rw [select2I, checkReads_of_readable hread, hr, ok_bind, typeCheck_of_typed hty (by simp), ok_bind]
  rfl

theorem select3_writes (f : TyCode → Word → Word → Word → Word) (hty : isFloaty ty = false)
    (hread : s.readable [r, rs, rt] = true) (hr : (s.rd (s.npc 4) r).ty = ty) (hs : (s.rd (s.npc 4) rs).ty = ty)
    (ht : (s.rd (s.npc 4) rt).ty = ty) :
    ∃ t, select3 f d r rs rt 0 u s = .next t ∧ Writes s t (s.npc 4) d
      (f ty (s.rd (s.npc 4) r).val (s.rd (s.npc 4) rs).val (s.rd (s.npc 4) rt).val) ty (unstatedIf u) := by
  refine ⟨_, ?_, s.writeBack_writes _ _ _ _ _⟩
  rw [select3, checkZZ_zero, ok_bind, checkReads_of_readable hread, hr, ok_bind, typeCheck_of_typed hty (by simp [hs, ht]),
    ok_bind]
  rfl

theorem select3I_writes (f : TyCode → Word → Word → Word → Word) (hty : isFloaty ty = false) (hread : s.readable [r, rt] = true)
    (hr : (s.rd (s.npc (4 + n.extLen)) r).ty = ty) (ht : (s.rd (s.npc (4 + n.extLen)) rt).ty = ty) :
    ∃ t, select3I f d r n rt 0 u s = .next t ∧ Writes s t (s.npc (4 + n.extLen)) d
      (f ty (s.rd (s.npc (4 + n.extLen)) r).val (immVal n (ctxOf ty)) (s.rd (s.npc (4 + n.extLen)) rt).val) ty
      (unstatedIf u) := by
  refine ⟨_, ?_, s.writeBack_writes _ _ _ _ _⟩
  rw [select3I, checkZZ_zero, ok_bind, checkReads_of_readable hread, hr, ok_bind, typeCheck_of_typed hty (by simp [ht]), ok_bind]
  rfl

end

end Sys2Proof.Machine

namespace Sys2Proof.Proofs.MinMax

open Sys2Proof.Machine

/-- Settles O52: each row is the shared choice with a function that chooses by the order of the type. -/
theorem minMaxTwo : Obligations.MinMaxTwo := by
  unfold Obligations.MinMaxTwo
  constructor
  case left =>
    intro p hp d r rs s ty a b hty hread hr hs
    obtain ⟨f, hchooses, hexec⟩ : ∃ f, Chooses f p.2 ∧ exec (p.1 d r rs) s = select2 f d r rs s := by
      fin_cases hp
      exacts [⟨_, maxBy_chooses, rfl⟩, ⟨_, minBy_chooses, rfl⟩]
    obtain ⟨t, ht, hwrites⟩ := select2_writes (d := d) f hty hread hr hs
    exact ⟨t, _, hexec ▸ ht, hwrites, hchooses ty a b⟩
  case right =>
    intro p hp d r n s ty npc a b hty hread hr
    obtain ⟨f, hchooses, hexec⟩ : ∃ f, Chooses f p.2 ∧ exec (p.1 d r n) s = select2I f d r n s := by
      fin_cases hp
      exacts [⟨_, maxBy_chooses, rfl⟩, ⟨_, minBy_chooses, rfl⟩]
    obtain ⟨t, ht, hwrites⟩ := select2I_writes (d := d) f hty hread hr
    exact ⟨t, _, hexec ▸ ht, hwrites, hchooses ty a b⟩

/-- Settles O53: each row is the shared choice with a function that gives one place of the sorted operands. -/
theorem minMaxThree : Obligations.MinMaxThree := by
  unfold Obligations.MinMaxThree
  constructor
  case left =>
    intro p hp d r rs rt u s ty npc hty hread hr hs ht
    obtain ⟨f, hplaces, hexec⟩ : ∃ f, Places f p.2 ∧ exec (p.1 d r rs rt 0 u) s = select3 f d r rs rt 0 u s := by
      fin_cases hp
      exacts [⟨_, max3_places, rfl⟩, ⟨_, min3_places, rfl⟩, ⟨_, medianBy_places, rfl⟩]
    obtain ⟨t, hnext, hwrites⟩ := select3_writes (d := d) (u := u) f hty hread hr hs ht
    obtain ⟨x, y, hperm, hsorted⟩ := hplaces ty (s.rd npc r).val (s.rd npc rs).val (s.rd npc rt).val
    exact ⟨t, _, x, y, hexec ▸ hnext, hwrites, hperm, hsorted⟩
  case right =>
    intro p hp d r n rt u s ty npc hty hread hr ht
    obtain ⟨f, hplaces, hexec⟩ : ∃ f, Places f p.2 ∧ exec (p.1 d r n rt 0 u) s = select3I f d r n rt 0 u s := by
      fin_cases hp
      exacts [⟨_, max3_places, rfl⟩, ⟨_, min3_places, rfl⟩, ⟨_, medianBy_places, rfl⟩]
    obtain ⟨t, hnext, hwrites⟩ := select3I_writes (d := d) (u := u) f hty hread hr ht
    obtain ⟨x, y, hperm, hsorted⟩ := hplaces ty (s.rd npc r).val (immVal n (ctxOf ty)) (s.rd npc rt).val
    exact ⟨t, _, x, y, hexec ▸ hnext, hwrites, hperm, hsorted⟩

end Sys2Proof.Proofs.MinMax
end

section
/-!
The integer single operand instructions (47_single_operand.md sections 1 to 3): the sign change of a result, the counts bit
by bit, the square root, the ports, and where they stop.
-/
namespace Sys2Proof.Machine

/-! ## The sign change (R311) -/

theorem negIf_eq (z : Bool) (v : Word) : negIf z v = if z then -v else v := by rw [negIf, zero_sub]

theorem negIf_ofInt (z : Bool) (e : Int) : negIf z (BitVec.ofInt 32 e) = BitVec.ofInt 32 ((if z then -1 else 1) * e) := by
  rw [negIf_eq]
  cases z
  case false => rw [if_neg Bool.false_ne_true, if_neg Bool.false_ne_true, one_mul]
  case true => rw [if_pos rfl, if_pos rfl, neg_one_mul, BitVec.ofInt_neg]

theorem ofNat_natAbs (x : Int) : BitVec.ofNat 32 x.natAbs = BitVec.ofInt 32 |x| := by rw [Int.abs_eq_natAbs, BitVec.ofInt_natCast]

theorem ofInt_zero_sub_natAbs (x : Int) : BitVec.ofInt 32 (0 - (x.natAbs : Int)) = BitVec.ofInt 32 (-|x|) := by
  rw [zero_sub, Int.abs_eq_natAbs]

/-! ## Counts (R325 to R329) -/

/-- `c` is the length of the run of `x` at the start of the `k` bits `bit`. -/
def RunLength (bit : Nat → Bool) (x : Bool) (k c : Nat) : Prop :=
  c ≤ k ∧ (∀ j < c, bit j = x) ∧ (c < k → bit c = !x)

theorem RunLength.zero {bit : Nat → Bool} {x : Bool} {k : Nat} (h : bit 0 = !x) : RunLength bit x k 0 :=
  ⟨k.zero_le, fun j hj => absurd hj j.not_lt_zero, fun _ => h⟩

theorem RunLength.succ {bit : Nat → Bool} {x : Bool} {k c : Nat} (hfirst : bit 0 = x)
    (h : RunLength (fun j => bit (j + 1)) x k c) : RunLength bit x (k + 1) (c + 1) := by
  obtain ⟨hle, hrun, hend⟩ := h
  refine ⟨Nat.succ_le_succ hle, fun j hj => ?_, fun hlt => hend (Nat.lt_of_succ_lt_succ hlt)⟩
  cases j with
  | zero => exact hfirst
  | succ j => exact hrun j (Nat.lt_of_succ_lt_succ hj)

theorem leadingRun_runLength (x : Bool) (v : Word) (k : Nat) :
    RunLength (fun j => v.getLsbD (k - 1 - j)) x k (leadingRun x v k) := by
  induction k with
  | zero => exact ⟨le_rfl, fun j hj => absurd hj j.not_lt_zero, fun h => absurd h (lt_irrefl 0)⟩
  | succ k ih =>
    by_cases hbit : v.getLsbD k = x
    · rw [leadingRun, if_pos hbit]
      refine .succ hbit ?_
      simpa only [Nat.add_sub_cancel, Nat.sub_add_eq, Nat.sub_right_comm] using ih
    · rw [leadingRun, if_neg hbit]
      exact .zero (Bool.eq_not.mpr hbit)

theorem trailingRun_runLength (x : Bool) (v : Word) {k : Nat} (hk : k ≤ 32) :
    RunLength (fun j => v.getLsbD (32 - k + j)) x k (trailingRun x v k) := by
  induction k with
  | zero => exact ⟨le_rfl, fun j hj => absurd hj j.not_lt_zero, fun h => absurd h (lt_irrefl 0)⟩
  | succ k ih =>
    have hfirst : 32 - (k + 1) + 0 = 31 - k := by omega
    by_cases hbit : v.getLsbD (31 - k) = x
    · rw [trailingRun, if_pos hbit]
      refine .succ (hfirst ▸ hbit) ?_
      have hshift (j : Nat) : 32 - (k + 1) + (j + 1) = 32 - k + j := by omega
      simpa only [hshift] using ih (Nat.le_of_succ_le hk)
    · rw [trailingRun, if_neg hbit]
      exact .zero (hfirst ▸ Bool.eq_not.mpr hbit)

theorem onesBelow_eq_countP (v : Word) (k : Nat) : onesBelow v k = (List.range k).countP fun j => v.getLsbD j := by
  induction k with
  | zero => rfl
  | succ k ih =>
    rw [onesBelow, ih, List.range_succ, List.countP_append, List.countP_singleton]
    cases v.getLsbD k <;> rfl

/-! ## The square root (R330) -/

/-- Each step keeps the root between `q0` and `q0 + 2^k`, and halves the distance. -/
theorem rootFrom_spec {n k q0 : Nat} (hlo : q0 * q0 ≤ n) (hhi : n < (q0 + 2 ^ k) * (q0 + 2 ^ k)) :
    let q := rootFrom n k q0
    q * q ≤ n ∧ n < (q + 1) * (q + 1) := by
  induction k generalizing q0 with
  | zero => exact ⟨hlo, hhi⟩
  | succ k ih =>
    have hhalf : q0 + 2 ^ (k + 1) = q0 + 2 ^ k + 2 ^ k := by rw [Nat.pow_succ, Nat.mul_two, Nat.add_assoc]
    rw [rootFrom]
    split
    case isTrue hle => exact ih hle (hhalf ▸ hhi)
    case isFalse hlt => exact ih hlo (Nat.not_le.mp hlt)

theorem isqrt_spec {n : Nat} (hn : n < 2 ^ 32) : isqrt n * isqrt n ≤ n ∧ n < (isqrt n + 1) * (isqrt n + 1) :=
  rootFrom_spec (k := 16) (q0 := 0) n.zero_le (by simpa using hn)

/-! ## The shared operation and the instructions past their checks -/

section
variable {s : State} {d rs : RegNum} {z : Bool} {f : TyCode → Word → Word}

theorem single_writes (hread : s.readable [rs] = true) (hty : isFloaty (s.rd (s.npc 3) rs).ty = false) :
    let x := s.rd (s.npc 3) rs
    ∃ t, single f d rs z s = .next t ∧ Writes s t (s.npc 3) d (negIf z (f x.ty x.val)) x.ty .keep :=
  ⟨_, outcome_past_floaty hread (by simpa using hty) _, s.writeBack_writes _ _ _ _ _⟩

theorem single_stops : FloatyStops (single f d rs z s) s [rs] [(s.rd (s.npc 3) rs).ty] := floatyStops ..

theorem execSqrt_stops : FloatyStops (execSqrt d rs z s) s [rs] [(s.rd (s.npc 3) rs).ty] := floatyStops ..

/-- SQRT past its operand checks refuses a negative operand. -/
theorem execSqrt_eq (hread : s.readable [rs] = true) (hty : isFloaty (s.rd (s.npc 3) rs).ty = false) :
    let x := s.rd (s.npc 3) rs
    execSqrt d rs z s = outcome (refuseIf (valOf x.ty x.val < 0) .sqrtNegative >>= fun _ =>
      .ok (s.writeBack (s.npc 3) d (negIf z (BitVec.ofNat 32 (isqrt x.val.toNat))) x.ty .keep)) :=
  outcome_past_floaty hread (by simpa using hty) _

theorem execSqrt_writes (hread : s.readable [rs] = true) (hty : isFloaty (s.rd (s.npc 3) rs).ty = false)
    (hsign : 0 ≤ valOf (s.rd (s.npc 3) rs).ty (s.rd (s.npc 3) rs).val) :
    let x := s.rd (s.npc 3) rs
    ∃ t, execSqrt d rs z s = .next t ∧
      Writes s t (s.npc 3) d (negIf z (BitVec.ofNat 32 (isqrt x.val.toNat))) x.ty .keep := by
  refine ⟨_, ?_, s.writeBack_writes _ _ _ _ _⟩
  rw [execSqrt_eq hread hty, refuseIf_of_not (Int.not_lt.mpr hsign), ok_bind, outcome_ok]

theorem execMov_writes (hread : s.readable [rs] = true) (hty : z = true → isFloaty (s.rd (s.npc 3) rs).ty = false) :
    let x := s.rd (s.npc 3) rs
    ∃ t, execMov d rs z s = .next t ∧ Writes s t (s.npc 3) d (negIf z x.val) x.ty .keep := by
  refine ⟨_, ?_, s.writeBack_writes _ _ _ _ _⟩
  rw [execMov, outcome_of_readable hread, refuseIf_of_not fun h => absurd h.2 (by simp [hty h.1]), ok_bind]
  rfl

theorem execMov_floaty (hread : s.readable [rs] = true) (hty : isFloaty (s.rd (s.npc 3) rs).ty = true) :
    execMov d rs true s = .refused .floatOrPosit := by
  rw [execMov, outcome_of_readable hread, refuseIf_of ⟨rfl, hty⟩, error_bind, outcome_refused]

/-- The events of the ports come before the write, which keeps them. -/
theorem execInp_writes (hread : s.readable [rs] = true) :
    let p := (s.rd (s.npc 3) rs).val
    ∃ t, execInp d rs false s = .next t ∧ Writes (s.portRead p) t (s.npc 3) d (s.portDraw p) .u .keep :=
  ⟨_, outcome_of_readable hread _, State.writeBack_writes _ _ _ _ _ _⟩

theorem execOut_jumps (hread : s.readable [rs, d] = true) :
    ∃ t, execOut d rs false s = .next t ∧
      Jumps (s.portWrite (s.rd (s.npc 3) rs).val (s.rd (s.npc 3) d).val) t (s.npc 3) :=
  ⟨_, outcome_of_readable hread _, State.jumps_pc _ _⟩

end

end Sys2Proof.Machine

namespace Sys2Proof.Proofs.Single

open Sys2Proof.Machine

/-- Settles O54: each row computes its function of the integer modulo 2^32, and the sign change is a factor. -/
theorem singleArith : Obligations.SingleArith := by
  unfold Obligations.SingleArith
  intro p hp d rs z s x hread hty
  obtain ⟨f, hf, hexec⟩ : ∃ f, (∀ ty v, f ty v = BitVec.ofInt 32 (p.2 (valOf ty v))) ∧ exec (p.1 d rs z) s = single f d rs z s := by
    fin_cases hp
    exacts [⟨_, fun _ _ => congrArg _ (zero_sub _), rfl⟩, ⟨_, fun _ _ => rfl, rfl⟩, ⟨_, fun _ _ => rfl, rfl⟩,
      ⟨_, fun _ _ => ofNat_natAbs _, rfl⟩, ⟨_, fun _ _ => ofInt_zero_sub_natAbs _, rfl⟩]
  obtain ⟨t, ht, hwrites⟩ := single_writes (f := f) (d := d) (z := z) hread hty
  rw [hf, negIf_ofInt] at hwrites
  exact ⟨t, hexec ▸ ht, hwrites⟩

/-- Settles O55: the runs and the count of ones, each read off the bits. -/
theorem singleCount : Obligations.SingleCount := by
  unfold Obligations.SingleCount
  refine ⟨?leading, ?trailing, ?ones⟩
  case leading =>
    intro p hp d rs z s x hread hty
    have hexec : exec (p.1 d rs z) s = single (fun _ v => BitVec.ofNat 32 (leadingRun p.2 v 32)) d rs z s := by
      fin_cases hp <;> rfl
    obtain ⟨t, ht, hwrites⟩ := single_writes (d := d) (z := z) hread hty
    exact ⟨t, _, hexec ▸ ht, negIf_eq z _ ▸ hwrites, leadingRun_runLength p.2 x.val 32⟩
  case trailing =>
    intro p hp d rs z s x hread hty
    have hexec : exec (p.1 d rs z) s = single (fun _ v => BitVec.ofNat 32 (trailingRun p.2 v 32)) d rs z s := by
      fin_cases hp <;> rfl
    obtain ⟨t, ht, hwrites⟩ := single_writes (d := d) (z := z) hread hty
    have hrun := trailingRun_runLength p.2 x.val (le_refl 32)
    simp only [Nat.sub_self, Nat.zero_add] at hrun
    exact ⟨t, _, hexec ▸ ht, negIf_eq z _ ▸ hwrites, hrun⟩
  case ones =>
    intro d rs z s x hread hty
    obtain ⟨t, ht, hwrites⟩ := single_writes (f := fun _ v => BitVec.ofNat 32 (onesBelow v 32)) (d := d) (z := z) hread hty
    rw [negIf_eq, onesBelow_eq_countP] at hwrites
    exact ⟨t, ht, hwrites⟩

/-- Settles O56: the three instructions on operands that pass their checks, and the root of `isqrt_spec`. -/
theorem singleMove : Obligations.SingleMove := by
  unfold Obligations.SingleMove
  simp only [← negIf_eq]
  refine ⟨fun d rs z s hread hty => execMov_writes hread hty,
    fun d rs z s hread => ⟨_, outcome_of_readable hread _, s.writeBack_writes _ _ _ _ _⟩, ?sqrt⟩
  case sqrt =>
    intro d rs z s hread hty hsign
    obtain ⟨t, ht, hwrites⟩ := execSqrt_writes (d := d) (z := z) hread hty hsign
    obtain ⟨hle, hlt⟩ := isqrt_spec (s.rd (s.npc 3) rs).val.isLt
    exact ⟨t, _, ht, hle, hlt, hwrites⟩

/-- Settles O57: the value IN gives is the draw it records. -/
theorem ports : Obligations.Ports := by
  unfold Obligations.Ports
  refine ⟨fun d rs s hread => ?inp, fun d rs s hread => execOut_jumps hread⟩
  case inp =>
    obtain ⟨t, ht, hwrites⟩ := execInp_writes (d := d) hread
    exact ⟨t, _, ht, hwrites⟩

/-- Settles O58: the reserved bit of the ports, the operand reads, the type check and the sign, in this order. -/
theorem singleStops : Obligations.SingleStops := by
  unfold Obligations.SingleStops
  refine ⟨?floaty, fun d rs s hread hty => execMov_floaty hread hty, ?unwritten,
    fun d rs s => ⟨fun h => outcome_of_unreadable h _, fun h => outcome_of_unreadable h _⟩, ?modifier, ?negative⟩
  case floaty =>
    intro c hc d rs z s hread hty
    have hstops : FloatyStops (exec (c d rs z) s) s [rs] [(s.rd (s.npc 3) rs).ty] := by
      fin_cases hc
      all_goals dsimp only [exec, execNeg, execInc, execDec, execAbs, execNabs, execLdzcnt, execLd1cnt, execTrzcnt,
        execTr1cnt, execPopcnt]
      iterate 10 exact single_stops
      exact execSqrt_stops
    exact hstops.floaty hread (by simpa using hty)
  case unwritten =>
    intro c hc d rs z s h
    obtain ⟨k, hexec⟩ : ∃ k, exec (c d rs z) s = outcome (s.checkReads [rs] >>= k) := by
      fin_cases hc <;> exact ⟨_, rfl⟩
    rw [hexec, outcome_of_unreadable h]
  case modifier =>
    intro c hc d rs s
    fin_cases hc <;> rfl
  case negative =>
    intro d rs z s hread hty hneg
    have hsign : valOf (s.rd (s.npc 3) rs).ty (s.rd (s.npc 3) rs).val < 0 := by
      rw [hty, valOf_signed]
      exact (toInt_neg_iff _).mpr hneg
    refine (execSqrt_eq hread (by rw [hty]; rfl)).trans ?_
    rw [refuseIf_of hsign, error_bind, outcome_refused]

end Sys2Proof.Proofs.Single
end
